-- ==== Sys2Proof/Word.lean ====
section
/-! DEFINITION. The word types of the block: 00_scope.md R5, R6 and 30_encoding.md R50 to R53.
Every value is unsigned and bit 0 is the least significant bit (R6). -/

namespace Sys2Proof

/-- A device register, a register address, a payload byte (R5). -/
abbrev Byte := BitVec 8

/-- A datapath value, the reference and the target frequency (R5, D4). -/
abbrev Word32 := BitVec 32

/-- A 7-bit bus device address (R5, R30). -/
abbrev BusAddr := BitVec 7

/-- HCMD, the host command word `cmd[36:0]` (R51). -/
abbrev CmdWord := BitVec 37

/-- UOP with the model's operand lines: bits 3..0 are the spec's operation code (R52), bits 7..4 are 0,
bits 23..16 and 15..8 carry the first and the second operand of R62. DESIGN CHOICE: the spec gives the
code no operand bits (log entry 15). -/
abbrev UopWord := BitVec 24

/-- BUSWR, the payload of one bus write, register address in bits 15..8 and value in bits 7..0 (R53). -/
abbrev BusWord := BitVec 16

end Sys2Proof
end

