-- ==== Sys2Proof/Config.lean ====
section
/-! DEFINITION. What the spec leaves to a parameter of the model (92_eei_decisions.md, "Open parameters of the
model"), and the free values. An opaque constant has no body: nothing can be proved of its value. -/

namespace Sys2Proof

/-- A parameter triple (P1, P2, P3) (00_scope.md R9). -/
structure Triple where
  p1 : Word32
  p2 : Word32
  p3 : Word32
  deriving DecidableEq, Repr, Inhabited

namespace Config

/-- Which natural numbers other than 0 name an error value: nothing is known of it (ERR_T is OPEN: D24, U6). -/
opaque namesError : Nat → Bool

/-- ERR_T, the type of the transport's error value: OPEN in the spec, a parameter of the model (00_scope.md R5, D24,
U6). DESIGN CHOICE (log entry 1): the error values are named by the numbers of an unknown set that has 0 in it, so that
nothing is known of the type but what plain data needs: it has a value, its values can be named, and two of them can be
compared. How many there are is open. The block stores and forwards a value and never inspects it. -/
structure ErrT where
  code : Nat
  valid : code = 0 ∨ namesError code = true
  deriving DecidableEq, Repr

/-- Which function a configuration function of the model is: the rule's own (the default) or one of which nothing is
known (41_pll_param_encoder.md R83; 93_implementation_defined.md U4, G2, G3; log entries 10, 11, 12). -/
inductive Choice where
  | byRule
  | uninterpreted
  deriving DecidableEq, Repr

/-- The three configuration functions of 92_eei_decisions.md: `numArith` (D5), `encPLL` (D6), `encMS` (D7). -/
structure Params where
  numArith : Choice
  encPll : Choice
  encMs : Choice
  deriving DecidableEq, Repr

/-- Every configuration function at the default the spec states: R73, R80, R85. -/
def Params.default : Params := ⟨.byRule, .byRule, .byRule⟩

/-- `num` as a function of (rem, ref) under a `numArith` other than R73's (U4). -/
opaque numOther : Word32 → Word32 → Word32

/-- (mult, num, denom) to (P1, P2, P3) under an `encPLL` other than R80's (G2). -/
opaque encPllOther : Byte → Word32 → Word32 → Triple

/-- d to (P1, P2, P3) under an `encMS` other than R85's (G3). -/
opaque encMsOther : Word32 → Triple

/-- The value of `a div 0`, which 00_scope.md R7 does not define (log entry 14). -/
opaque quotByZero : Nat → Word32

/-- The value of `a mod 0`, which 00_scope.md R7 does not define (log entry 14). -/
opaque remByZero : Nat → Word32

/-- What the n-th register hit by a failed or abandoned write holds: any value (20_memory.md R36, U7;
70_reset_and_hazards.md R141, U14; log entries 6 and 7). -/
opaque lostWriteByte : Nat → Byte

end Config
end Sys2Proof
end

