-- ==== Sys2Proof/Syntax.lean ====
section
/-! DEFINITION. The operations of the block, one constructor for each row of opcode_table.json
(30_encoding.md R50, R52, R62, R64). -/

namespace Sys2Proof

/-- The two PLLs (10_state.md R19). -/
inductive Pll where
  | a
  | b
  deriving DecidableEq, Repr

/-- The three clock outputs (10_state.md R19). -/
inductive Clk where
  | clk0
  | clk1
  | clk2
  deriving DecidableEq, Repr

/-- The five parameter blocks (10_state.md R18, R19): the legal bases of ENCODE_AND_WRITE (R62). -/
inductive BlockId where
  | pllA
  | pllB
  | ms0
  | ms1
  | ms2
  deriving DecidableEq, Repr

/-- The operations. Host commands (R100, R101), internal operations (R70 to R94), bus writes (R64). The value of a
parameter-block write is free; the value of the other bus writes is fixed by the row. -/
inductive Instr where
  | construct (addrSel : Bool) (ref : Word32)
  | setFrequency (target : Word32)
  | plan
  | encPll
  | encMs
  | pack8
  | writeReg (reg val : Byte)
  | encodeAndWrite (block : BlockId) (extra : Byte)
  | resetPll (pll : Pll)
  | enableClock (clk : Clk)
  | wrPlla_0 (val : Byte)
  | wrPlla_1 (val : Byte)
  | wrPlla_2 (val : Byte)
  | wrPlla_3 (val : Byte)
  | wrPlla_4 (val : Byte)
  | wrPlla_5 (val : Byte)
  | wrPlla_6 (val : Byte)
  | wrPlla_7 (val : Byte)
  | wrPllb_0 (val : Byte)
  | wrPllb_1 (val : Byte)
  | wrPllb_2 (val : Byte)
  | wrPllb_3 (val : Byte)
  | wrPllb_4 (val : Byte)
  | wrPllb_5 (val : Byte)
  | wrPllb_6 (val : Byte)
  | wrPllb_7 (val : Byte)
  | wrMs0_0 (val : Byte)
  | wrMs0_1 (val : Byte)
  | wrMs0_2 (val : Byte)
  | wrMs0_3 (val : Byte)
  | wrMs0_4 (val : Byte)
  | wrMs0_5 (val : Byte)
  | wrMs0_6 (val : Byte)
  | wrMs0_7 (val : Byte)
  | wrMs1_0 (val : Byte)
  | wrMs1_1 (val : Byte)
  | wrMs1_2 (val : Byte)
  | wrMs1_3 (val : Byte)
  | wrMs1_4 (val : Byte)
  | wrMs1_5 (val : Byte)
  | wrMs1_6 (val : Byte)
  | wrMs1_7 (val : Byte)
  | wrMs2_0 (val : Byte)
  | wrMs2_1 (val : Byte)
  | wrMs2_2 (val : Byte)
  | wrMs2_3 (val : Byte)
  | wrMs2_4 (val : Byte)
  | wrMs2_5 (val : Byte)
  | wrMs2_6 (val : Byte)
  | wrMs2_7 (val : Byte)
  | wrPllrstA
  | wrPllrstB
  | wrClk0En
  | wrClk1En
  | wrClk2En
  deriving DecidableEq, Repr

end Sys2Proof
end

