-- ==== Sys2Proof/WellFormed.lean ====
section
/-! DEFINITION. Which instructions are well formed. The types carry every other restriction of 30_encoding.md R62. -/

namespace Sys2Proof

/-- "A model that admits a non-zero EXTRA must require EXTRA[1:0] = 0 so that the OR cannot alter P1's bits" (R55). -/
def extraAllowed (extra : Byte) : Bool :=
  decide (extra.extractLsb' 0 2 = 0)

/-- Well-formedness: only ENCODE_AND_WRITE has a value its type cannot rule out. Zero frequencies are well formed:
the block refuses them at acceptance (60_exceptions.md R122). -/
def Instr.wellFormed : Instr → Bool
  | .encodeAndWrite _ extra => extraAllowed extra
  | .construct _ _ | .setFrequency _ | .plan | .encPll | .encMs | .pack8 | .writeReg _ _ | .resetPll _
  | .enableClock _
  | .wrPlla_0 _ | .wrPlla_1 _ | .wrPlla_2 _ | .wrPlla_3 _ | .wrPlla_4 _ | .wrPlla_5 _ | .wrPlla_6 _ | .wrPlla_7 _
  | .wrPllb_0 _ | .wrPllb_1 _ | .wrPllb_2 _ | .wrPllb_3 _ | .wrPllb_4 _ | .wrPllb_5 _ | .wrPllb_6 _ | .wrPllb_7 _
  | .wrMs0_0 _ | .wrMs0_1 _ | .wrMs0_2 _ | .wrMs0_3 _ | .wrMs0_4 _ | .wrMs0_5 _ | .wrMs0_6 _ | .wrMs0_7 _
  | .wrMs1_0 _ | .wrMs1_1 _ | .wrMs1_2 _ | .wrMs1_3 _ | .wrMs1_4 _ | .wrMs1_5 _ | .wrMs1_6 _ | .wrMs1_7 _
  | .wrMs2_0 _ | .wrMs2_1 _ | .wrMs2_2 _ | .wrMs2_3 _ | .wrMs2_4 _ | .wrMs2_5 _ | .wrMs2_6 _ | .wrMs2_7 _
  | .wrPllrstA | .wrPllrstB | .wrClk0En | .wrClk1En | .wrClk2En => true

end Sys2Proof
end

