-- ==== Sys2Proof/Decode.lean ====
section
/-! DEFINITION. The decoder of the three word formats (30_encoding.md R51, R52, R53, R64), total, rejecting by name,
and after it the encoder, written from the same rules. -/

namespace Sys2Proof

/-- Why a word is no operation. -/
inductive DecodeError where
  /-- A host command word whose `op` is in 0x2 .. 0xF (R59). -/
  | illegalOp (op : BitVec 4)
  /-- SET_FREQUENCY with the reserved bit `as` = 1 (R59). -/
  | reservedAddrSel
  /-- An internal operation line whose code is no internal operation's: 0x0, 0x1 or 0xA .. 0xF (R52). -/
  | reservedUop (code : BitVec 4)
  /-- An internal operation line with an operand R62 does not list. -/
  | badOperand (w : UopWord)
  /-- A bus payload that is no write of this block (R59, R64). -/
  | notAWrite (reg val : Byte)
  deriving DecidableEq, Repr

/-- HCMD (R51): op in bits 36..33, as in bit 32, f in bits 31..0. -/
def decodeHost (w : CmdWord) : Except DecodeError Instr :=
  match (w.extractLsb' 33 4).toNat with
  | 0 => .ok (.construct (w.getLsbD 32) (w.extractLsb' 0 32))
  | 1 => if w.getLsbD 32 then .error .reservedAddrSel else .ok (.setFrequency (w.extractLsb' 0 32))
  | _ => .error (.illegalOp (w.extractLsb' 33 4))

/-- The block whose model selector is `n` (log entry 15). -/
def blockOfSelector (n : Byte) : Option BlockId :=
  match n.toNat with
  | 0 => some .pllA
  | 1 => some .pllB
  | 2 => some .ms0
  | 3 => some .ms1
  | 4 => some .ms2
  | _ => none

/-- The PLL whose model selector is `n` (log entry 15). -/
def pllOfSelector (n : Byte) : Option Pll :=
  match n.toNat with
  | 0 => some .a
  | 1 => some .b
  | _ => none

/-- The clock output whose model selector is `n` (log entry 15). -/
def clkOfSelector (n : Byte) : Option Clk :=
  match n.toNat with
  | 0 => some .clk0
  | 1 => some .clk1
  | 2 => some .clk2
  | _ => none

/-- UOP with operand lines `a` (first operand) and `b` (second operand) (R52, R62; log entry 15).
ENCODE_AND_WRITE with EXTRA[1:0] not 0 is rejected, as R55 requires of a model that admits a non-zero EXTRA. -/
def decodeUop (w : UopWord) : Except DecodeError Instr :=
  let code := w.extractLsb' 0 4
  let b := w.extractLsb' 8 8
  let a := w.extractLsb' 16 8
  if w.extractLsb' 4 4 = 0 then
    match code.toNat with
    | 2 => if a = 0 ∧ b = 0 then .ok .plan else .error (.badOperand w)
    | 3 => if a = 0 ∧ b = 0 then .ok .encPll else .error (.badOperand w)
    | 4 => if a = 0 ∧ b = 0 then .ok .encMs else .error (.badOperand w)
    | 5 => if a = 0 ∧ b = 0 then .ok .pack8 else .error (.badOperand w)
    | 6 => .ok (.writeReg a b)
    | 7 =>
      match blockOfSelector a with
      | some blk => if b.extractLsb' 0 2 = 0 then .ok (.encodeAndWrite blk b) else .error (.badOperand w)
      | none => .error (.badOperand w)
    | 8 =>
      match pllOfSelector a with
      | some p => if b = 0 then .ok (.resetPll p) else .error (.badOperand w)
      | none => .error (.badOperand w)
    | 9 =>
      match clkOfSelector a with
      | some c => if b = 0 then .ok (.enableClock c) else .error (.badOperand w)
      | none => .error (.badOperand w)
    | _ => .error (.reservedUop code)
  else .error (.badOperand w)

/-- BUSWR (R53), classified by the first byte (R64); the fixed-value rows by both bytes. -/
def decodeBus (w : BusWord) : Except DecodeError Instr :=
  let v := w.extractLsb' 0 8
  let reg := w.extractLsb' 8 8
  match reg.toNat with
  | 16 => if v = 0x4F#8 then .ok .wrClk0En else .error (.notAWrite reg v)
  | 17 => if v = 0x4F#8 then .ok .wrClk1En else .error (.notAWrite reg v)
  | 18 => if v = 0x4F#8 then .ok .wrClk2En else .error (.notAWrite reg v)
  | 26 => .ok (.wrPlla_0 v)
  | 27 => .ok (.wrPlla_1 v)
  | 28 => .ok (.wrPlla_2 v)
  | 29 => .ok (.wrPlla_3 v)
  | 30 => .ok (.wrPlla_4 v)
  | 31 => .ok (.wrPlla_5 v)
  | 32 => .ok (.wrPlla_6 v)
  | 33 => .ok (.wrPlla_7 v)
  | 34 => .ok (.wrPllb_0 v)
  | 35 => .ok (.wrPllb_1 v)
  | 36 => .ok (.wrPllb_2 v)
  | 37 => .ok (.wrPllb_3 v)
  | 38 => .ok (.wrPllb_4 v)
  | 39 => .ok (.wrPllb_5 v)
  | 40 => .ok (.wrPllb_6 v)
  | 41 => .ok (.wrPllb_7 v)
  | 42 => .ok (.wrMs0_0 v)
  | 43 => .ok (.wrMs0_1 v)
  | 44 => .ok (.wrMs0_2 v)
  | 45 => .ok (.wrMs0_3 v)
  | 46 => .ok (.wrMs0_4 v)
  | 47 => .ok (.wrMs0_5 v)
  | 48 => .ok (.wrMs0_6 v)
  | 49 => .ok (.wrMs0_7 v)
  | 50 => .ok (.wrMs1_0 v)
  | 51 => .ok (.wrMs1_1 v)
  | 52 => .ok (.wrMs1_2 v)
  | 53 => .ok (.wrMs1_3 v)
  | 54 => .ok (.wrMs1_4 v)
  | 55 => .ok (.wrMs1_5 v)
  | 56 => .ok (.wrMs1_6 v)
  | 57 => .ok (.wrMs1_7 v)
  | 58 => .ok (.wrMs2_0 v)
  | 59 => .ok (.wrMs2_1 v)
  | 60 => .ok (.wrMs2_2 v)
  | 61 => .ok (.wrMs2_3 v)
  | 62 => .ok (.wrMs2_4 v)
  | 63 => .ok (.wrMs2_5 v)
  | 64 => .ok (.wrMs2_6 v)
  | 65 => .ok (.wrMs2_7 v)
  | 177 =>
    if v = 0x20#8 then .ok .wrPllrstA
    else if v = 0x80#8 then .ok .wrPllrstB
    else .error (.notAWrite reg v)
  | _ => .error (.notAWrite reg v)

/-- A word on one of the three ports. -/
inductive Word where
  | hcmd (w : CmdWord)
  | uop (w : UopWord)
  | buswr (w : BusWord)
  deriving DecidableEq, Repr

/-- The decoder, by format (30_encoding.md R50, R61). -/
def decode : Word → Except DecodeError Instr
  | .hcmd w => decodeHost w
  | .uop w => decodeUop w
  | .buswr w => decodeBus w

/-- HCMD as R51 lays it out: `op << 33 | as << 32 | f`. -/
def hostWord (op : BitVec 4) (addrSel : Bool) (f : Word32) : CmdWord :=
  op ++ BitVec.ofBool addrSel ++ f

/-- An internal operation code with the model's operand lines (log entry 15). -/
def uopWord (a b : Byte) (code : BitVec 4) : UopWord :=
  a ++ b ++ 0#4 ++ code

/-- BUSWR as R53 lays it out: register address first. -/
def busWord (reg val : Byte) : BusWord :=
  reg ++ val

/-- The model's selector of a block (log entry 15). -/
def BlockId.selector : BlockId → Byte
  | .pllA => 0
  | .pllB => 1
  | .ms0 => 2
  | .ms1 => 3
  | .ms2 => 4

/-- The model's selector of a PLL (log entry 15). -/
def Pll.selector : Pll → Byte
  | .a => 0
  | .b => 1

/-- The model's selector of a clock output (log entry 15). -/
def Clk.selector : Clk → Byte
  | .clk0 => 0
  | .clk1 => 1
  | .clk2 => 2

/-- The word of an instruction: R51 for host commands, R52 for internal operations, R53 and R58 for bus writes. -/
def encode : Instr → Word
  | .construct addrSel ref => .hcmd (hostWord 0x0 addrSel ref)
  | .setFrequency t => .hcmd (hostWord 0x1 false t)
  | .plan => .uop (uopWord 0 0 0x2)
  | .encPll => .uop (uopWord 0 0 0x3)
  | .encMs => .uop (uopWord 0 0 0x4)
  | .pack8 => .uop (uopWord 0 0 0x5)
  | .writeReg reg val => .uop (uopWord reg val 0x6)
  | .encodeAndWrite blk extra => .uop (uopWord blk.selector extra 0x7)
  | .resetPll p => .uop (uopWord p.selector 0 0x8)
  | .enableClock c => .uop (uopWord c.selector 0 0x9)
  | .wrPlla_0 v => .buswr (busWord 0x1A v)
  | .wrPlla_1 v => .buswr (busWord 0x1B v)
  | .wrPlla_2 v => .buswr (busWord 0x1C v)
  | .wrPlla_3 v => .buswr (busWord 0x1D v)
  | .wrPlla_4 v => .buswr (busWord 0x1E v)
  | .wrPlla_5 v => .buswr (busWord 0x1F v)
  | .wrPlla_6 v => .buswr (busWord 0x20 v)
  | .wrPlla_7 v => .buswr (busWord 0x21 v)
  | .wrPllb_0 v => .buswr (busWord 0x22 v)
  | .wrPllb_1 v => .buswr (busWord 0x23 v)
  | .wrPllb_2 v => .buswr (busWord 0x24 v)
  | .wrPllb_3 v => .buswr (busWord 0x25 v)
  | .wrPllb_4 v => .buswr (busWord 0x26 v)
  | .wrPllb_5 v => .buswr (busWord 0x27 v)
  | .wrPllb_6 v => .buswr (busWord 0x28 v)
  | .wrPllb_7 v => .buswr (busWord 0x29 v)
  | .wrMs0_0 v => .buswr (busWord 0x2A v)
  | .wrMs0_1 v => .buswr (busWord 0x2B v)
  | .wrMs0_2 v => .buswr (busWord 0x2C v)
  | .wrMs0_3 v => .buswr (busWord 0x2D v)
  | .wrMs0_4 v => .buswr (busWord 0x2E v)
  | .wrMs0_5 v => .buswr (busWord 0x2F v)
  | .wrMs0_6 v => .buswr (busWord 0x30 v)
  | .wrMs0_7 v => .buswr (busWord 0x31 v)
  | .wrMs1_0 v => .buswr (busWord 0x32 v)
  | .wrMs1_1 v => .buswr (busWord 0x33 v)
  | .wrMs1_2 v => .buswr (busWord 0x34 v)
  | .wrMs1_3 v => .buswr (busWord 0x35 v)
  | .wrMs1_4 v => .buswr (busWord 0x36 v)
  | .wrMs1_5 v => .buswr (busWord 0x37 v)
  | .wrMs1_6 v => .buswr (busWord 0x38 v)
  | .wrMs1_7 v => .buswr (busWord 0x39 v)
  | .wrMs2_0 v => .buswr (busWord 0x3A v)
  | .wrMs2_1 v => .buswr (busWord 0x3B v)
  | .wrMs2_2 v => .buswr (busWord 0x3C v)
  | .wrMs2_3 v => .buswr (busWord 0x3D v)
  | .wrMs2_4 v => .buswr (busWord 0x3E v)
  | .wrMs2_5 v => .buswr (busWord 0x3F v)
  | .wrMs2_6 v => .buswr (busWord 0x40 v)
  | .wrMs2_7 v => .buswr (busWord 0x41 v)
  | .wrPllrstA => .buswr (busWord 0xB1 0x20)
  | .wrPllrstB => .buswr (busWord 0xB1 0x80)
  | .wrClk0En => .buswr (busWord 0x10 0x4F)
  | .wrClk1En => .buswr (busWord 0x11 0x4F)
  | .wrClk2En => .buswr (busWord 0x12 0x4F)

/-- `width`, `mask` and `match` of a row of opcode_table.json. -/
structure OpcodeRow where
  width : Nat
  mask : Nat
  pattern : Nat
  deriving DecidableEq, Repr

/-- The rows of opcode_table.json. -/
def Instr.row : Instr → OpcodeRow
  | .construct _ _ => ⟨37, 0x1E00000000, 0x0000000000⟩
  | .setFrequency _ => ⟨37, 0x1F00000000, 0x0200000000⟩
  | .plan => ⟨4, 0xF, 0x2⟩
  | .encPll => ⟨4, 0xF, 0x3⟩
  | .encMs => ⟨4, 0xF, 0x4⟩
  | .pack8 => ⟨4, 0xF, 0x5⟩
  | .writeReg _ _ => ⟨4, 0xF, 0x6⟩
  | .encodeAndWrite _ _ => ⟨4, 0xF, 0x7⟩
  | .resetPll _ => ⟨4, 0xF, 0x8⟩
  | .enableClock _ => ⟨4, 0xF, 0x9⟩
  | .wrPlla_0 _ => ⟨16, 0xFF00, 0x1A00⟩
  | .wrPlla_1 _ => ⟨16, 0xFF00, 0x1B00⟩
  | .wrPlla_2 _ => ⟨16, 0xFF00, 0x1C00⟩
  | .wrPlla_3 _ => ⟨16, 0xFF00, 0x1D00⟩
  | .wrPlla_4 _ => ⟨16, 0xFF00, 0x1E00⟩
  | .wrPlla_5 _ => ⟨16, 0xFF00, 0x1F00⟩
  | .wrPlla_6 _ => ⟨16, 0xFF00, 0x2000⟩
  | .wrPlla_7 _ => ⟨16, 0xFF00, 0x2100⟩
  | .wrPllb_0 _ => ⟨16, 0xFF00, 0x2200⟩
  | .wrPllb_1 _ => ⟨16, 0xFF00, 0x2300⟩
  | .wrPllb_2 _ => ⟨16, 0xFF00, 0x2400⟩
  | .wrPllb_3 _ => ⟨16, 0xFF00, 0x2500⟩
  | .wrPllb_4 _ => ⟨16, 0xFF00, 0x2600⟩
  | .wrPllb_5 _ => ⟨16, 0xFF00, 0x2700⟩
  | .wrPllb_6 _ => ⟨16, 0xFF00, 0x2800⟩
  | .wrPllb_7 _ => ⟨16, 0xFF00, 0x2900⟩
  | .wrMs0_0 _ => ⟨16, 0xFF00, 0x2A00⟩
  | .wrMs0_1 _ => ⟨16, 0xFF00, 0x2B00⟩
  | .wrMs0_2 _ => ⟨16, 0xFF00, 0x2C00⟩
  | .wrMs0_3 _ => ⟨16, 0xFF00, 0x2D00⟩
  | .wrMs0_4 _ => ⟨16, 0xFF00, 0x2E00⟩
  | .wrMs0_5 _ => ⟨16, 0xFF00, 0x2F00⟩
  | .wrMs0_6 _ => ⟨16, 0xFF00, 0x3000⟩
  | .wrMs0_7 _ => ⟨16, 0xFF00, 0x3100⟩
  | .wrMs1_0 _ => ⟨16, 0xFF00, 0x3200⟩
  | .wrMs1_1 _ => ⟨16, 0xFF00, 0x3300⟩
  | .wrMs1_2 _ => ⟨16, 0xFF00, 0x3400⟩
  | .wrMs1_3 _ => ⟨16, 0xFF00, 0x3500⟩
  | .wrMs1_4 _ => ⟨16, 0xFF00, 0x3600⟩
  | .wrMs1_5 _ => ⟨16, 0xFF00, 0x3700⟩
  | .wrMs1_6 _ => ⟨16, 0xFF00, 0x3800⟩
  | .wrMs1_7 _ => ⟨16, 0xFF00, 0x3900⟩
  | .wrMs2_0 _ => ⟨16, 0xFF00, 0x3A00⟩
  | .wrMs2_1 _ => ⟨16, 0xFF00, 0x3B00⟩
  | .wrMs2_2 _ => ⟨16, 0xFF00, 0x3C00⟩
  | .wrMs2_3 _ => ⟨16, 0xFF00, 0x3D00⟩
  | .wrMs2_4 _ => ⟨16, 0xFF00, 0x3E00⟩
  | .wrMs2_5 _ => ⟨16, 0xFF00, 0x3F00⟩
  | .wrMs2_6 _ => ⟨16, 0xFF00, 0x4000⟩
  | .wrMs2_7 _ => ⟨16, 0xFF00, 0x4100⟩
  | .wrPllrstA => ⟨16, 0xFFFF, 0xB120⟩
  | .wrPllrstB => ⟨16, 0xFFFF, 0xB180⟩
  | .wrClk0En => ⟨16, 0xFFFF, 0x104F⟩
  | .wrClk1En => ⟨16, 0xFFFF, 0x114F⟩
  | .wrClk2En => ⟨16, 0xFFFF, 0x124F⟩

/-- The bits of a word as the opcode table numbers them. -/
def Word.bits : Word → Nat
  | .hcmd w => w.toNat
  | .uop w => w.toNat
  | .buswr w => w.toNat

/-- What the decoder reads from an instruction whose bits are `w`, numbered as opcode_table.json numbers them, `nbits`
bits of it given by the table in whole bytes: 8 for UOP, 16 for BUSWR, 40 for HCMD (30_encoding.md R61). A word with
bits its format does not have is refused. -/
def decodeTableWord (nbits w : Nat) : Option Instr :=
  let r :=
    if nbits ≤ 8 then (if w < 2 ^ 24 then decode (.uop (BitVec.ofNat 24 w)) else .error (.badOperand 0))
    else if nbits ≤ 16 then
      (if w < 2 ^ 16 then decode (.buswr (BitVec.ofNat 16 w)) else .error (.notAWrite 0 0))
    else (if w < 2 ^ 37 then decode (.hcmd (BitVec.ofNat 37 w)) else .error (.illegalOp 0))
  match r with
  | .ok i => some i
  | .error _ => none

end Sys2Proof
end

