-- ==== Sys2Proof/Machine/State.lean ====
section
/-! DEFINITION. The state of the machine (10_state.md), the reasons a step can stop, and the state after reset. -/

namespace Sys2Proof.Machine

open Sys2Proof.Config

/-- The configuration registers (R11). -/
structure Cfg where
  devAddr : BusAddr
  refFreq : Word32
  constructed : Bool
  deriving DecidableEq, Repr

/-- The thirteen datapath registers x[0] .. x[12] (R13). -/
structure Datapath where
  tf : Word32
  d : Word32
  pllf : Word32
  mult : Byte
  rem : Word32
  num : Word32
  den : Word32
  p1 : Word32
  p2 : Word32
  p3 : Word32
  base : Byte
  extra : Byte
  off : BitVec 4
  deriving DecidableEq, Repr

/-- The byte buffer B[0..7] (R15). -/
structure Buffer where
  b0 : Byte
  b1 : Byte
  b2 : Byte
  b3 : Byte
  b4 : Byte
  b5 : Byte
  b6 : Byte
  b7 : Byte
  deriving DecidableEq, Repr

/-- SEQ_STATE (R16). Code 7 is never entered, so the type does not contain it (U11). -/
inductive SeqState where
  | idle
  | computedParameters
  | pllProgrammed
  | multisynthProgrammed
  | pllReset
  | clockEnabled
  | failed
  deriving DecidableEq, Repr

/-- STATUS (R17). Codes 6 and 7 are never produced (U11). -/
inductive Status where
  | none
  | ok
  | transportError
  | domain
  | notReady
  | illegal
  deriving DecidableEq, Repr

/-- The flags, the status code and ERR_INFO (R17). ERR_INFO "holds no value" unless STATUS is TRANSPORT_ERROR. -/
structure Flags where
  busy : Bool
  doneFlag : Bool
  failFlag : Bool
  status : Status
  errInfo : Option ErrT
  deriving DecidableEq, Repr

/-- The transport's answer to one write (R32). -/
inductive Answer where
  | ok
  | err (e : ErrT)
  deriving DecidableEq, Repr

/-- What the response port shows when the block looks: no answer yet (bus_rsp_valid = 0) or an answer (R21). -/
inductive BusRsp where
  | silent
  | answered (a : Answer)
  deriving DecidableEq, Repr

/-- One entry of the event trace (R44). -/
structure Event where
  a7 : BusAddr
  reg : Byte
  val : Byte
  answer : Answer
  deriving DecidableEq, Repr

/-- The device registers, as cells keyed by `deviceKey`; an unlisted register has no value known to the model
(R18, R23, R44; log entry 8). -/
abbrev Memory := List Host.Cell

/-- The whole state. -/
structure State where
  cfg : Cfg
  dp : Datapath
  buf : Buffer
  /-- SEQ_STATE, half of `pc` (R16). -/
  seq : SeqState
  /-- WIDX, the other half of `pc`: the writes of the current command answered `Ok` (R16). -/
  widx : BitVec 5
  flags : Flags
  /-- The outstanding bus write, none when bus_req_valid = 0 (R21, R23). -/
  busReq : Option BusWord
  /-- The loop of an ENCODE_AND_WRITE is in progress (R92; the model's own, log entry 18). -/
  inBlock : Bool
  /-- The event trace (R44, R91). -/
  trace : List Event
  /-- The device registers as the trace leaves them (R44). -/
  dev : Memory
  /-- The command words the host presents, the first one now (R104). -/
  cmds : List CmdWord
  /-- An internal operation driven by itself (the model's own, log entry 16). -/
  uop : Option UopWord
  /-- What the transport's response port will show, one entry for each time the block looks (R32, log entry 3). -/
  rsps : List BusRsp
  /-- The level of the reset input at each coming step (R21, R140, log entry 5). -/
  rst : List Bool
  /-- How many free values have been drawn (the model's own, log entries 6 and 7). -/
  freeCount : Nat
  /-- Which configuration functions are in force (the model's own, log entries 10, 11, 12). -/
  params : Params
  deriving DecidableEq, Repr

/-- Why the machine would stop with a fault. There is no such reason: the spec's one error, TransportError, and its
three refusals of a command are states the machine goes on from (60_exceptions.md R120, R121, R123, R128), so no step
raises a fault. -/
inductive Fault where
  deriving DecidableEq, Repr

/-- Why a step has no meaning. -/
inductive Refusal where
  /-- Raised by `exec` for an instruction that has no meaning yet; safe. No arm raises it. -/
  | notModelled (mnemonic : String)
  /-- Raised by `step` when the internal operation line carries a word that names no internal operation: a reserved code
  or an operand the spec does not list (30_encoding.md R52, R59; log entry 30). Safe: the spec gives such a word no
  effect, and no host command ever drives the line. -/
  | reservedOperation (w : UopWord)
  deriving DecidableEq, Repr

/-- SEQ_STATE's code (R16, D14). -/
def SeqState.code : SeqState → BitVec 3
  | .idle => 0
  | .computedParameters => 1
  | .pllProgrammed => 2
  | .multisynthProgrammed => 3
  | .pllReset => 4
  | .clockEnabled => 5
  | .failed => 6

/-- STATUS's code (R17, D15). -/
def Status.code : Status → BitVec 3
  | .none => 0
  | .ok => 1
  | .transportError => 2
  | .domain => 3
  | .notReady => 4
  | .illegal => 5

/-- DESIGN CHOICE: zero, where R23 says "no value" (log entry 2). -/
def Cfg.reset : Cfg := ⟨0, 0, false⟩

/-- DESIGN CHOICE: zeros, where R23 says "no value" (log entry 2). -/
def Datapath.reset : Datapath := ⟨0, 0, 0, 0, 0, 0, 0, 0, 0, 0, 0, 0, 0⟩

/-- DESIGN CHOICE: zeros, where R23 says "no value" (log entry 2). -/
def Buffer.reset : Buffer := ⟨0, 0, 0, 0, 0, 0, 0, 0⟩

/-- BUSY, DONE, FAIL 0, STATUS NONE, ERR_INFO no value (R23). -/
def Flags.reset : Flags := ⟨false, false, false, .none, none⟩

/-- The machine right after reset (R23, R140, R142). Nothing is presented, answered, written or recorded. -/
def State.reset : State where
  cfg := Cfg.reset
  dp := Datapath.reset
  buf := Buffer.reset
  seq := .idle
  widx := 0
  flags := Flags.reset
  busReq := none
  inBlock := false
  trace := []
  dev := []
  cmds := []
  uop := none
  rsps := []
  rst := []
  freeCount := 0
  params := Params.default

end Sys2Proof.Machine
end

