-- ==== Sys2Proof/Machine/Operands.lean ====
section
/-! DEFINITION. Operand values: the constants of 00_scope.md R5, the arithmetic of R6 and R7, the Register Map of
10_state.md R19, the fixed bytes of 30_encoding.md R56 and R57, the datapath registers as x[i] and the byte buffer. -/

namespace Sys2Proof.Machine

open Sys2Proof.Config

/-- PLL_MAX_HZ (R5). -/
def pllMaxHz : Nat := 900000000

/-- DENOM, the fixed fraction denominator 2^20 - 1 (R5). -/
def denom : Nat := 1048575

/-- BASE_DEV_ADDR (R5). -/
def baseDevAddr : BusAddr := 0b1100000#7

/-- `wrap32(v) = v mod 2^32`, `v` possibly negative (R7). -/
def wrap32 (v : Int) : Word32 := BitVec.ofInt 32 v

/-- `trunc_8(v) = v mod 2^8` (R6). -/
def trunc8 (v : Nat) : Byte := BitVec.ofNat 8 v

/-- `v[hi:lo]` as a `n`-bit value, `n = hi - lo + 1` (R6). -/
def bitsOf (v : Word32) (lo n : Nat) : BitVec n := v.extractLsb' lo n

/-- `a div b` (R7), a free value where R7 does not define it (log entry 14). -/
def divOf (a b : Nat) : Nat := if b = 0 then (quotByZero a).toNat else a / b

/-- `a mod b` (R7), a free value where R7 does not define it (log entry 14). -/
def modOf (a b : Nat) : Nat := if b = 0 then (remByZero a).toNat else a % b

/-- The resolved device address: `0b1100000 | as` (20_memory.md R31). -/
def resolveDevAddr (addrSel : Bool) : BusAddr := baseDevAddr ||| (BitVec.ofBool addrSel).setWidth 7

/-- `pll_base` (R19). -/
def pllBase : Pll → Byte
  | .a => 26
  | .b => 34

/-- `clk_ctrl` (R19). -/
def clkCtrl : Clk → Byte
  | .clk0 => 16
  | .clk1 => 17
  | .clk2 => 18

/-- The base address of a parameter block: `pll_base` and `ms_base` (R19). -/
def blockBase : BlockId → Byte
  | .pllA => pllBase .a
  | .pllB => pllBase .b
  | .ms0 => 42
  | .ms1 => 50
  | .ms2 => 58

/-- `PLL_RESET` (R19). -/
def pllResetReg : Byte := 177

/-- The PLL_RESET value: bit 5 for PLL A, bit 7 for PLL B (30_encoding.md R56). -/
def pllResetValue : Pll → Byte
  | .a => 0b00100000
  | .b => 0b10000000

/-- The CLK control byte (30_encoding.md R57). -/
def clkControlValue : Byte := 0x4F

/-- The names of the datapath registers (R13). -/
inductive Reg where
  | tf
  | d
  | pllf
  | mult
  | rem
  | num
  | den
  | p1
  | p2
  | p3
  | base
  | extra
  | off
  deriving DecidableEq, Repr

/-- The index of `x[i]` (R13). -/
def Reg.index : Reg → Nat
  | .tf => 0
  | .d => 1
  | .pllf => 2
  | .mult => 3
  | .rem => 4
  | .num => 5
  | .den => 6
  | .p1 => 7
  | .p2 => 8
  | .p3 => 9
  | .base => 10
  | .extra => 11
  | .off => 12

/-- The width of a datapath register (R13). -/
def Reg.width : Reg → Nat
  | .mult => 8
  | .base => 8
  | .extra => 8
  | .off => 4
  | .tf => 32
  | .d => 32
  | .pllf => 32
  | .rem => 32
  | .num => 32
  | .den => 32
  | .p1 => 32
  | .p2 => 32
  | .p3 => 32

/-- `x[NAME]` as an unsigned number (00_scope.md R8). -/
def State.x (s : State) : Reg → Nat
  | .tf => s.dp.tf.toNat
  | .d => s.dp.d.toNat
  | .pllf => s.dp.pllf.toNat
  | .mult => s.dp.mult.toNat
  | .rem => s.dp.rem.toNat
  | .num => s.dp.num.toNat
  | .den => s.dp.den.toNat
  | .p1 => s.dp.p1.toNat
  | .p2 => s.dp.p2.toNat
  | .p3 => s.dp.p3.toNat
  | .base => s.dp.base.toNat
  | .extra => s.dp.extra.toNat
  | .off => s.dp.off.toNat

/-- B[0], B[1], ..., B[7] (R15). -/
def Buffer.toList (b : Buffer) : List Byte :=
  [b.b0, b.b1, b.b2, b.b3, b.b4, b.b5, b.b6, b.b7]

end Sys2Proof.Machine
end

