-- ==== Sys2Proof/Machine/Flags.lean ====
section
/-! DEFINITION. Every change of BUSY, DONE, FAIL, STATUS and ERR_INFO (10_state.md R17). ERR_INFO holds a value only
while STATUS is TRANSPORT_ERROR. -/

namespace Sys2Proof.Machine

open Sys2Proof.Config

/-- A SET_FREQUENCY is accepted: BUSY <- 1, DONE <- 0, FAIL <- 0, STATUS <- NONE (44_sequencer.md R101). -/
def Flags.accepted (_ : Flags) : Flags := ⟨true, false, false, .none, none⟩

/-- A command ends well: BUSY <- 0, DONE <- 1, FAIL <- 0, STATUS <- OK (R100, R101, R17). -/
def Flags.succeeded (_ : Flags) : Flags := ⟨false, true, false, .ok, none⟩

/-- A command is refused: DONE <- 0, FAIL <- 1, STATUS <- code, BUSY unchanged (60_exceptions.md R123). -/
def Flags.refused (f : Flags) (code : Status) : Flags := ⟨f.busy, false, true, code, none⟩

/-- Entry of TransportError(e): ERR_INFO <- e, STATUS <- TRANSPORT_ERROR, BUSY <- 0, DONE <- 0, FAIL <- 1
(60_exceptions.md R121). -/
def Flags.transportFailed (_ : Flags) (e : ErrT) : Flags := ⟨false, false, true, .transportError, some e⟩

end Sys2Proof.Machine
end

