-- ==== Sys2Proof/Machine/Ops.lean ====
section
/-! DEFINITION. The operations every meaning is built from: the device registers, the bus write (20_memory.md R32, R33),
the entry of TransportError (60_exceptions.md R121), the refusal of a command (R123) and the reset event
(70_reset_and_hazards.md R140, R141). There is no return from an exception (R130): Failed is left by the next accepted
SET_FREQUENCY, whose acceptance is `acceptSetFrequency` in HostCommands.lean, or by reset. -/

namespace Sys2Proof.Machine

open Sys2Proof.Config

/-- The key of device register `reg` of the device at bus address `a7`: the two address spaces of R30 as one. -/
def deviceKey (a7 : BusAddr) (reg : Byte) : Nat := a7.toNat * 256 + reg.toNat

/-- The value of a device register, none when it has no known value. -/
def Memory.read : Memory → Nat → Option Byte
  | [], _ => none
  | (b, v) :: m, a => if a = b then some v else Memory.read m a

/-- Store one byte, keeping the addresses strictly rising. -/
def Memory.write : Memory → Nat → Byte → Memory
  | [], a, v => [(a, v)]
  | (b, w) :: m, a, v =>
    if a < b then (a, v) :: (b, w) :: m
    else if a = b then (a, v) :: m
    else (b, w) :: Memory.write m a v

/-- Addresses strictly rise from above `lo`, inside the 15-bit space of R30. -/
def Memory.risesFrom : Nat → Memory → Bool
  | _, [] => true
  | lo, (b, _) :: m => decide (lo ≤ b) && decide (b < 2 ^ 15) && Memory.risesFrom (b + 1) m

/-- The canonical form: strictly rising addresses. Every listed cell has a value, an unlisted one has none, so no entry
equals what an unlisted address reads as. -/
def Memory.wf (m : Memory) : Bool := Memory.risesFrom 0 m

/-- The known value of register `reg` of the device at `a7` (R44). -/
def State.devReg (s : State) (a7 : BusAddr) (reg : Byte) : Option Byte := s.dev.read (deviceKey a7 reg)

/-- How an operation leaves the block: it has completed; a TransportError has stopped it "and every operation that
invoked it" (00_scope.md R8); or it waits for the transport's answer (20_memory.md R32). -/
inductive Progress where
  | completed (s : State)
  | raised (s : State)
  | waiting (s : State)
  deriving DecidableEq, Repr

/-- The state an operation leaves. -/
def Progress.state : Progress → State
  | .completed s => s
  | .raised s => s
  | .waiting s => s

/-- The next operation of a sequence runs only when the one before has completed (20_memory.md R39). -/
def Progress.andThen (p : Progress) (f : State → Progress) : Progress :=
  match p with
  | .completed s => f s
  | .raised s => .raised s
  | .waiting s => .waiting s

/-- The outcome of a step that an operation makes: always a next state. -/
def Progress.outcome (p : Progress) : Host.Outcome State Fault Refusal := .next p.state

/-- Entry of TransportError(e) (R121): pc <- Failed with WIDX kept, ERR_INFO <- e, STATUS, BUSY, DONE and FAIL; the
operation in progress and the operations that invoked it are over. -/
def raiseTransportError (e : ErrT) (s : State) : State :=
  { s with seq := .failed, flags := s.flags.transportFailed e, inBlock := false }

/-- The target register of a write whose fate is not stated holds any value (R36, U7; R141, U14). -/
def loseWrite (reg : Byte) (s : State) : State :=
  { s with
    dev := s.dev.write (deviceKey s.cfg.devAddr reg) (lostWriteByte s.freeCount)
    freeCount := s.freeCount + 1 }

/-- The write was answered `Ok`: one more trace entry, WIDX <- WIDX + 1, the value is in the device register
(R33, R44, R91). -/
def answerOk (reg val : Byte) (s : State) : State :=
  { s with
    busReq := none
    trace := s.trace ++ [⟨s.cfg.devAddr, reg, val, .ok⟩]
    dev := s.dev.write (deviceKey s.cfg.devAddr reg) val
    widx := s.widx + 1 }

/-- The write was answered `Err(e)`: one more trace entry, the register holds any value, TransportError(e) is raised
(R36, R44, R91). -/
def answerErr (reg val : Byte) (e : ErrT) (s : State) : State :=
  raiseTransportError e
    (loseWrite reg
      { s with
        busReq := none
        trace := s.trace ++ [⟨s.cfg.devAddr, reg, val, .err e⟩] })

/-- The write is outstanding: the request is held with a stable payload (R21, R32). DESIGN CHOICE (log entry 36): until
its answer the target register keeps the value known of it; R39 does not say when the device takes the new one. Held over
another request, which no step does, it replaces that request (log entry 35). -/
def holdRequest (reg val : Byte) (s : State) : State :=
  { s with busReq := some (busWord reg val) }

/-- `BusWrite(cfg.DEV_ADDR, [reg, val])` and what the block does with the answer (R32, R33, R91). The block looks at the
response port once; while the transport has not answered, the request stays outstanding. -/
def busWrite (reg val : Byte) (s : State) : Progress :=
  match s.rsps with
  | .answered .ok :: rest => .completed (answerOk reg val { s with rsps := rest })
  | .answered (.err e) :: rest => .raised (answerErr reg val e { s with rsps := rest })
  | .silent :: rest => .waiting (holdRequest reg val { s with rsps := rest })
  | [] => .waiting (holdRequest reg val s)

/-- A refused command: "DONE <- 0 ; FAIL <- 1 ; STATUS <- code" and nothing else (R123). -/
def refuseCommand (code : Status) (s : State) : State :=
  { s with flags := s.flags.refused code }

/-- A write outstanding when reset is asserted may or may not reach the device (R141, U14). -/
def abandonWrite (s : State) : State :=
  match s.busReq with
  | some w => loseWrite (w.extractLsb' 8 8) s
  | none => s

/-- The reset event: every piece of the block's state goes to its reset value, no bus write is issued, the device keeps
its contents (R140, R141). What the other agents present and the record of the run stay (log entry 5). -/
def resetEvent (s : State) : State :=
  let s1 := abandonWrite s
  { State.reset with
    trace := s1.trace
    dev := s1.dev
    cmds := s1.cmds
    rsps := s1.rsps
    rst := s1.rst
    freeCount := s1.freeCount
    params := s1.params }

end Sys2Proof.Machine
end

