-- ==== Sys2Proof/Machine/BusWrites.lean ====
section
/-! DEFINITION. The 45 kinds of bus write (30_encoding.md R64; 43_register_pack_write.md R91 to R94). Each is one
two-byte transaction [reg, val] with the effect of R91; the addresses are those of R58, the fixed values those of R56
and R57. -/

namespace Sys2Proof.Machine

/-- WR.PLLA.0: register 26. -/
def execWrPlla_0 (val : Byte) (s : State) : Host.Outcome State Fault Refusal := (busWrite 26 val s).outcome

/-- WR.PLLA.1: register 27. -/
def execWrPlla_1 (val : Byte) (s : State) : Host.Outcome State Fault Refusal := (busWrite 27 val s).outcome

/-- WR.PLLA.2: register 28. -/
def execWrPlla_2 (val : Byte) (s : State) : Host.Outcome State Fault Refusal := (busWrite 28 val s).outcome

/-- WR.PLLA.3: register 29. -/
def execWrPlla_3 (val : Byte) (s : State) : Host.Outcome State Fault Refusal := (busWrite 29 val s).outcome

/-- WR.PLLA.4: register 30. -/
def execWrPlla_4 (val : Byte) (s : State) : Host.Outcome State Fault Refusal := (busWrite 30 val s).outcome

/-- WR.PLLA.5: register 31. -/
def execWrPlla_5 (val : Byte) (s : State) : Host.Outcome State Fault Refusal := (busWrite 31 val s).outcome

/-- WR.PLLA.6: register 32. -/
def execWrPlla_6 (val : Byte) (s : State) : Host.Outcome State Fault Refusal := (busWrite 32 val s).outcome

/-- WR.PLLA.7: register 33. -/
def execWrPlla_7 (val : Byte) (s : State) : Host.Outcome State Fault Refusal := (busWrite 33 val s).outcome

/-- WR.PLLB.0: register 34. -/
def execWrPllb_0 (val : Byte) (s : State) : Host.Outcome State Fault Refusal := (busWrite 34 val s).outcome

/-- WR.PLLB.1: register 35. -/
def execWrPllb_1 (val : Byte) (s : State) : Host.Outcome State Fault Refusal := (busWrite 35 val s).outcome

/-- WR.PLLB.2: register 36. -/
def execWrPllb_2 (val : Byte) (s : State) : Host.Outcome State Fault Refusal := (busWrite 36 val s).outcome

/-- WR.PLLB.3: register 37. -/
def execWrPllb_3 (val : Byte) (s : State) : Host.Outcome State Fault Refusal := (busWrite 37 val s).outcome

/-- WR.PLLB.4: register 38. -/
def execWrPllb_4 (val : Byte) (s : State) : Host.Outcome State Fault Refusal := (busWrite 38 val s).outcome

/-- WR.PLLB.5: register 39. -/
def execWrPllb_5 (val : Byte) (s : State) : Host.Outcome State Fault Refusal := (busWrite 39 val s).outcome

/-- WR.PLLB.6: register 40. -/
def execWrPllb_6 (val : Byte) (s : State) : Host.Outcome State Fault Refusal := (busWrite 40 val s).outcome

/-- WR.PLLB.7: register 41. -/
def execWrPllb_7 (val : Byte) (s : State) : Host.Outcome State Fault Refusal := (busWrite 41 val s).outcome

/-- WR.MS0.0: register 42. -/
def execWrMs0_0 (val : Byte) (s : State) : Host.Outcome State Fault Refusal := (busWrite 42 val s).outcome

/-- WR.MS0.1: register 43. -/
def execWrMs0_1 (val : Byte) (s : State) : Host.Outcome State Fault Refusal := (busWrite 43 val s).outcome

/-- WR.MS0.2: register 44. -/
def execWrMs0_2 (val : Byte) (s : State) : Host.Outcome State Fault Refusal := (busWrite 44 val s).outcome

/-- WR.MS0.3: register 45. -/
def execWrMs0_3 (val : Byte) (s : State) : Host.Outcome State Fault Refusal := (busWrite 45 val s).outcome

/-- WR.MS0.4: register 46. -/
def execWrMs0_4 (val : Byte) (s : State) : Host.Outcome State Fault Refusal := (busWrite 46 val s).outcome

/-- WR.MS0.5: register 47. -/
def execWrMs0_5 (val : Byte) (s : State) : Host.Outcome State Fault Refusal := (busWrite 47 val s).outcome

/-- WR.MS0.6: register 48. -/
def execWrMs0_6 (val : Byte) (s : State) : Host.Outcome State Fault Refusal := (busWrite 48 val s).outcome

/-- WR.MS0.7: register 49. -/
def execWrMs0_7 (val : Byte) (s : State) : Host.Outcome State Fault Refusal := (busWrite 49 val s).outcome

/-- WR.MS1.0: register 50. -/
def execWrMs1_0 (val : Byte) (s : State) : Host.Outcome State Fault Refusal := (busWrite 50 val s).outcome

/-- WR.MS1.1: register 51. -/
def execWrMs1_1 (val : Byte) (s : State) : Host.Outcome State Fault Refusal := (busWrite 51 val s).outcome

/-- WR.MS1.2: register 52. -/
def execWrMs1_2 (val : Byte) (s : State) : Host.Outcome State Fault Refusal := (busWrite 52 val s).outcome

/-- WR.MS1.3: register 53. -/
def execWrMs1_3 (val : Byte) (s : State) : Host.Outcome State Fault Refusal := (busWrite 53 val s).outcome

/-- WR.MS1.4: register 54. -/
def execWrMs1_4 (val : Byte) (s : State) : Host.Outcome State Fault Refusal := (busWrite 54 val s).outcome

/-- WR.MS1.5: register 55. -/
def execWrMs1_5 (val : Byte) (s : State) : Host.Outcome State Fault Refusal := (busWrite 55 val s).outcome

/-- WR.MS1.6: register 56. -/
def execWrMs1_6 (val : Byte) (s : State) : Host.Outcome State Fault Refusal := (busWrite 56 val s).outcome

/-- WR.MS1.7: register 57. -/
def execWrMs1_7 (val : Byte) (s : State) : Host.Outcome State Fault Refusal := (busWrite 57 val s).outcome

/-- WR.MS2.0: register 58. -/
def execWrMs2_0 (val : Byte) (s : State) : Host.Outcome State Fault Refusal := (busWrite 58 val s).outcome

/-- WR.MS2.1: register 59. -/
def execWrMs2_1 (val : Byte) (s : State) : Host.Outcome State Fault Refusal := (busWrite 59 val s).outcome

/-- WR.MS2.2: register 60. -/
def execWrMs2_2 (val : Byte) (s : State) : Host.Outcome State Fault Refusal := (busWrite 60 val s).outcome

/-- WR.MS2.3: register 61. -/
def execWrMs2_3 (val : Byte) (s : State) : Host.Outcome State Fault Refusal := (busWrite 61 val s).outcome

/-- WR.MS2.4: register 62. -/
def execWrMs2_4 (val : Byte) (s : State) : Host.Outcome State Fault Refusal := (busWrite 62 val s).outcome

/-- WR.MS2.5: register 63. -/
def execWrMs2_5 (val : Byte) (s : State) : Host.Outcome State Fault Refusal := (busWrite 63 val s).outcome

/-- WR.MS2.6: register 64. -/
def execWrMs2_6 (val : Byte) (s : State) : Host.Outcome State Fault Refusal := (busWrite 64 val s).outcome

/-- WR.MS2.7: register 65. -/
def execWrMs2_7 (val : Byte) (s : State) : Host.Outcome State Fault Refusal := (busWrite 65 val s).outcome

/-- WR.PLLRST.A: register 177. -/
def execWrPllrstA (s : State) : Host.Outcome State Fault Refusal := (busWrite 177 0x20 s).outcome

/-- WR.PLLRST.B: register 177. -/
def execWrPllrstB (s : State) : Host.Outcome State Fault Refusal := (busWrite 177 0x80 s).outcome

/-- WR.CLK0.EN: register 16. -/
def execWrClk0En (s : State) : Host.Outcome State Fault Refusal := (busWrite 16 0x4F s).outcome

/-- WR.CLK1.EN: register 17. -/
def execWrClk1En (s : State) : Host.Outcome State Fault Refusal := (busWrite 17 0x4F s).outcome

/-- WR.CLK2.EN: register 18. -/
def execWrClk2En (s : State) : Host.Outcome State Fault Refusal := (busWrite 18 0x4F s).outcome

end Sys2Proof.Machine
end

