-- ==== Sys2Proof/Machine/Encoders.lean ====
section
/-! DEFINITION. ENC_PLL (41_pll_param_encoder.md R80 to R83) and ENC_MS (42_multisynth_encoder.md R85, R86). The two
mappings are configuration functions whose defaults are the rules (R83; log entries 11, 12). -/

namespace Sys2Proof.Machine

open Sys2Proof.Config

/-- R80's `q = (128 * num) div den`. -/
def pllFloor (num den : Nat) : Nat := divOf (128 * num) den

/-- R80's `128 * num - den * q`, by the rule's own equality the remainder of that division (law `pllRest_eq`). Where R80's
`assert x[DEN] != 0` fails it is a free value, as q is (log entry 14). -/
def pllRest (num den : Nat) : Nat := modOf (128 * num) den

/-- R80's triple. PRESUMED: the vendor's formula, "from general knowledge, not in source" (log entry 11). -/
def encPllByRule (mult : Byte) (num den : Word32) : Triple :=
  { p1 := wrap32 (128 * (mult.toNat : Int) + pllFloor num.toNat den.toNat - 512)
    p2 := wrap32 (pllRest num.toNat den.toNat)
    p3 := den }

/-- The configuration function `encPLL` (R83, D6). -/
def encPllOf (c : Choice) (mult : Byte) (num den : Word32) : Triple :=
  match c with
  | .byRule => encPllByRule mult num den
  | .uninterpreted => encPllOther mult num den

/-- R85's triple. PRESUMED: the vendor's formula, "from general knowledge, not in source" (log entry 12). -/
def encMsByRule (d : Word32) : Triple :=
  { p1 := wrap32 (128 * (d.toNat : Int) - 512)
    p2 := 0
    p3 := 1 }

/-- The configuration function `encMS` (R83, D7). -/
def encMsOf (c : Choice) (d : Word32) : Triple :=
  match c with
  | .byRule => encMsByRule d
  | .uninterpreted => encMsOther d

/-- x[P1], x[P2], x[P3] <- a triple. -/
def setTriple (tr : Triple) (s : State) : State :=
  { s with dp := { s.dp with p1 := tr.p1, p2 := tr.p2, p3 := tr.p3 } }

/-- ENC_PLL (R80). -/
def encPll (s : State) : State := setTriple (encPllOf s.params.encPll s.dp.mult s.dp.num s.dp.den) s

/-- ENC_MS (R85). -/
def encMs (s : State) : State := setTriple (encMsOf s.params.encMs s.dp.d) s

/-- ENC_PLL as an operation of its own. -/
def execEncPll (s : State) : Host.Outcome State Fault Refusal := .next (encPll s)

/-- ENC_MS as an operation of its own. -/
def execEncMs (s : State) : Host.Outcome State Fault Refusal := .next (encMs s)

end Sys2Proof.Machine
end

