-- ==== Sys2Proof/Machine/PackWrite.lean ====
section
/-! DEFINITION. PACK8, WRITE_REG, ENCODE_AND_WRITE, RESET_PLL, ENABLE_CLOCK (43_register_pack_write.md R90 to R94). -/

namespace Sys2Proof.Machine

/-- The eight bytes of a triple and EXTRA (30_encoding.md R54, R90; byte 0 is P3[15:8], 90_conflicts.md C1). -/
def packBytes (p1 p2 p3 : Word32) (e : Byte) : Buffer :=
  { b0 := bitsOf p3 8 8
    b1 := bitsOf p3 0 8
    b2 := e ||| (bitsOf p1 16 2).setWidth 8
    b3 := bitsOf p1 8 8
    b4 := bitsOf p1 0 8
    b5 := bitsOf p3 16 4 ++ bitsOf p2 16 4
    b6 := bitsOf p2 8 8
    b7 := bitsOf p2 0 8 }

/-- PACK8 (R90). -/
def pack8 (s : State) : State :=
  { s with buf := packBytes s.dp.p1 s.dp.p2 s.dp.p3 s.dp.extra }

/-- WRITE_REG reg, val (R91). No check is made of reg. -/
def writeReg (reg val : Byte) (s : State) : Progress := busWrite reg val s

/-- x[OFF] <- x[OFF] + 1 (R92). -/
def stepOff (s : State) : State := { s with dp := { s.dp with off := s.dp.off + 1 } }

/-- The loop of an ENCODE_AND_WRITE is over. -/
def closeBlock (s : State) : State := { s with inBlock := false }

/-- R92's loop over the bytes still to be sent: WRITE_REG (x[BASE] + x[OFF]), B[x[OFF]], then x[OFF] <- x[OFF] + 1. -/
def writeBytes : List Byte → State → Progress
  | [], s => .completed (closeBlock s)
  | v :: vs, s =>
    (writeReg (s.dp.base + s.dp.off.setWidth 8) v s).andThen (fun s1 => writeBytes vs (stepOff s1))

/-- x[BASE] <- base ; x[EXTRA] <- extra (R92). -/
def setBaseExtra (base extra : Byte) (s : State) : State :=
  { s with dp := { s.dp with base := base, extra := extra } }

/-- x[OFF] <- 0, entering the loop (R92). -/
def openBlock (s : State) : State :=
  { s with dp := { s.dp with off := 0 }, inBlock := true }

/-- R92 up to the loop: all eight bytes are fixed before the first write. -/
def prepareBlock (blk : BlockId) (extra : Byte) (s : State) : State :=
  openBlock (pack8 (setBaseExtra (blockBase blk) extra s))

/-- ENCODE_AND_WRITE base, extra (R92). -/
def encodeAndWrite (blk : BlockId) (extra : Byte) (s : State) : Progress :=
  let s1 := prepareBlock blk extra s
  writeBytes s1.buf.toList s1

/-- RESET_PLL p (R93). -/
def resetPll (p : Pll) (s : State) : Progress := writeReg pllResetReg (pllResetValue p) s

/-- ENABLE_CLOCK c (R94). -/
def enableClock (c : Clk) (s : State) : Progress := writeReg (clkCtrl c) clkControlValue s

/-- PACK8 as an operation of its own. -/
def execPack8 (s : State) : Host.Outcome State Fault Refusal := .next (pack8 s)

/-- WRITE_REG as an operation of its own. -/
def execWriteReg (reg val : Byte) (s : State) : Host.Outcome State Fault Refusal := (writeReg reg val s).outcome

/-- ENCODE_AND_WRITE as an operation of its own. -/
def execEncodeAndWrite (blk : BlockId) (extra : Byte) (s : State) : Host.Outcome State Fault Refusal :=
  (encodeAndWrite blk extra s).outcome

/-- RESET_PLL as an operation of its own. -/
def execResetPll (p : Pll) (s : State) : Host.Outcome State Fault Refusal := (resetPll p s).outcome

/-- ENABLE_CLOCK as an operation of its own. -/
def execEnableClock (c : Clk) (s : State) : Host.Outcome State Fault Refusal := (enableClock c s).outcome

end Sys2Proof.Machine
end

