-- ==== Sys2Proof/Machine/Planner.lean ====
section
/-! DEFINITION. PLAN, the frequency planner (40_freq_planner.md R70 to R77). -/

namespace Sys2Proof.Machine

open Sys2Proof.Config

/-- Step 1: "If d is odd, decrement by one" (R70). -/
def makeEven (d0 : Nat) : Nat := if d0 % 2 = 1 then d0 - 1 else d0

/-- Step 1: the output divider (R70). -/
def planDivider (t : Nat) : Nat := makeEven (divOf pllMaxHz t)

/-- Step 5, exact: `(rem * 1048575) div ref` on the exact product (R73, D5). -/
def numExact (rem ref : Nat) : Nat := divOf (rem * denom) ref

/-- Step 5 as the configuration function `numArith`, default exact (R73, U4; log entry 10). -/
def numArith (c : Choice) (rem ref : Nat) : Word32 :=
  match c with
  | .byRule => BitVec.ofNat 32 (numExact rem ref)
  | .uninterpreted => numOther (BitVec.ofNat 32 rem) (BitVec.ofNat 32 ref)

/-- PLAN's new datapath from x[TF] and cfg.REF_FREQ (R70). -/
def planDatapath (c : Choice) (ref : Word32) (x : Datapath) : Datapath :=
  let t := x.tf.toNat
  let d := planDivider t
  let pll := d * t
  let m := divOf pll ref.toNat
  let rem := modOf pll ref.toNat
  { x with
    d := BitVec.ofNat 32 d
    pllf := BitVec.ofNat 32 pll
    mult := trunc8 m
    rem := BitVec.ofNat 32 rem
    num := numArith c rem ref.toNat
    den := BitVec.ofNat 32 denom }

/-- PLAN (R70). It writes no flag and touches no bus. -/
def plan (s : State) : State :=
  { s with dp := planDatapath s.params.numArith s.cfg.refFreq s.dp }

/-- PLAN as an operation of its own. -/
def execPlan (s : State) : Host.Outcome State Fault Refusal := .next (plan s)

end Sys2Proof.Machine
end

