-- ==== Sys2Proof/Machine/HostCommands.lean ====
section
/-! DEFINITION. CONSTRUCT and SET_FREQUENCY (44_sequencer.md R100, R101), the sequencer (R102, R103) and how it goes on
after a write that had to wait for its answer. -/

namespace Sys2Proof.Machine

/-- CONSTRUCT accepted (R100): the configuration registers and the flags; no bus traffic (D13). -/
def acceptConstruct (addrSel : Bool) (ref : Word32) (s : State) : State :=
  { s with
    cfg := ⟨resolveDevAddr addrSel, ref, true⟩
    flags := s.flags.succeeded }

/-- CONSTRUCT as, ref (R100). A command presented while BUSY = 1 is not accepted and has no effect (R104). -/
def construct (addrSel : Bool) (ref : Word32) (s : State) : State :=
  if s.flags.busy then s
  else if s.cfg.constructed then refuseCommand .illegal s
  else if ref = 0 then refuseCommand .domain s
  else acceptConstruct addrSel ref s

/-- SET_FREQUENCY accepted (R101, R102 row 1): flags, pc <- Idle, WIDX <- 0, x[TF] <- t. Leaving Failed is this and
nothing else (R105, R130). -/
def acceptSetFrequency (t : Word32) (s : State) : State :=
  { s with
    flags := s.flags.accepted
    seq := .idle
    widx := 0
    dp := { s.dp with tf := t } }

/-- The sequencer's pc after the operations of a SEQ_STATE have completed (R101, R102). Reaching ClockEnabled ends the
command: BUSY <- 0, DONE <- 1, STATUS <- OK. -/
def advance (s : State) : State :=
  match s.seq with
  | .idle => { s with seq := .computedParameters }
  | .computedParameters => { s with seq := .pllProgrammed }
  | .pllProgrammed => { s with seq := .multisynthProgrammed }
  | .multisynthProgrammed => { s with seq := .pllReset }
  | .pllReset => { s with seq := .clockEnabled, flags := s.flags.succeeded }
  | .clockEnabled => s
  | .failed => s

/-- From PLLReset: ENABLE_CLOCK CLK0 (R101). -/
def runFromPllReset (s : State) : Progress :=
  (enableClock .clk0 s).andThen (fun s1 => .completed (advance s1))

/-- From MultisynthProgrammed: RESET_PLL A, and on (R101). -/
def runFromMultisynth (s : State) : Progress :=
  (resetPll .a s).andThen (fun s1 => runFromPllReset (advance s1))

/-- From PLLProgrammed: ENC_MS; ENCODE_AND_WRITE 42, 0, and on (R101). -/
def runFromPllProgrammed (s : State) : Progress :=
  (encodeAndWrite .ms0 0 (encMs s)).andThen (fun s1 => runFromMultisynth (advance s1))

/-- From ComputedParameters: ENC_PLL; ENCODE_AND_WRITE 26, 0, and on (R101). -/
def runFromComputed (s : State) : Progress :=
  (encodeAndWrite .pllA 0 (encPll s)).andThen (fun s1 => runFromPllProgrammed (advance s1))

/-- From Idle: PLAN, and on (R101). -/
def runFromIdle (s : State) : Progress := runFromComputed (advance (plan s))

/-- The rest of the command from the start of the operations of SEQ_STATE (R101, R102). -/
def runSequence (s : State) : Progress :=
  match s.seq with
  | .idle => runFromIdle s
  | .computedParameters => runFromComputed s
  | .pllProgrammed => runFromPllProgrammed s
  | .multisynthProgrammed => runFromMultisynth s
  | .pllReset => runFromPllReset s
  | .clockEnabled => .completed s
  | .failed => .completed s

/-- SET_FREQUENCY t (R101), the checks in the order of 60_exceptions.md R127 (`as` = 1 is no SET_FREQUENCY the decoder
gives). -/
def setFrequency (t : Word32) (s : State) : State :=
  if s.flags.busy then s
  else if s.cfg.constructed = false then refuseCommand .notReady s
  else if t = 0 then refuseCommand .domain s
  else (runSequence (acceptSetFrequency t s)).state

/-- The operation that issued the write just answered `Ok` goes on: an ENCODE_AND_WRITE with its next offset (R92).
DESIGN CHOICE (log entry 35): in a state whose outstanding write is not the block's own, which no step reaches, the loop
goes on at x[OFF] + 1 all the same. -/
def finishOperation (s : State) : Progress :=
  if s.inBlock then
    let s1 := stepOff s
    writeBytes (s1.buf.toList.drop s1.dp.off.toNat) s1
  else .completed s

/-- The command that the completed operation belongs to, if any, goes on (R101, R102). -/
def finishCommand (s : State) : Progress :=
  if s.flags.busy then
    let s1 := advance s
    if s1.flags.busy then runSequence s1 else .completed s1
  else .completed s

/-- What the sequencer does after the response port has been looked at for an outstanding write: nothing while the write
is still outstanding or after a failure, else the rest of the operation and of the command (R39, R101). -/
def resume (s : State) : State :=
  match s.busReq with
  | some _ => s
  | none => ((finishOperation s).andThen finishCommand).state

/-- CONSTRUCT. -/
def execConstruct (addrSel : Bool) (ref : Word32) (s : State) : Host.Outcome State Fault Refusal :=
  .next (construct addrSel ref s)

/-- SET_FREQUENCY. -/
def execSetFrequency (t : Word32) (s : State) : Host.Outcome State Fault Refusal := .next (setFrequency t s)

end Sys2Proof.Machine
end

