-- ==== Sys2Proof/Machine/Dispatch.lean ====
section
/-! DEFINITION. The meaning of every instruction: one arm a constructor. -/

namespace Sys2Proof.Machine

def exec (i : Instr) (s : State) : Host.Outcome State Fault Refusal :=
  match i with
  | .construct addrSel ref => Sys2Proof.Machine.execConstruct addrSel ref s
  | .setFrequency t => Sys2Proof.Machine.execSetFrequency t s
  | .plan => Sys2Proof.Machine.execPlan s
  | .encPll => Sys2Proof.Machine.execEncPll s
  | .encMs => Sys2Proof.Machine.execEncMs s
  | .pack8 => Sys2Proof.Machine.execPack8 s
  | .writeReg reg val => Sys2Proof.Machine.execWriteReg reg val s
  | .encodeAndWrite blk extra => Sys2Proof.Machine.execEncodeAndWrite blk extra s
  | .resetPll p => Sys2Proof.Machine.execResetPll p s
  | .enableClock c => Sys2Proof.Machine.execEnableClock c s
  | .wrPlla_0 v => Sys2Proof.Machine.execWrPlla_0 v s
  | .wrPlla_1 v => Sys2Proof.Machine.execWrPlla_1 v s
  | .wrPlla_2 v => Sys2Proof.Machine.execWrPlla_2 v s
  | .wrPlla_3 v => Sys2Proof.Machine.execWrPlla_3 v s
  | .wrPlla_4 v => Sys2Proof.Machine.execWrPlla_4 v s
  | .wrPlla_5 v => Sys2Proof.Machine.execWrPlla_5 v s
  | .wrPlla_6 v => Sys2Proof.Machine.execWrPlla_6 v s
  | .wrPlla_7 v => Sys2Proof.Machine.execWrPlla_7 v s
  | .wrPllb_0 v => Sys2Proof.Machine.execWrPllb_0 v s
  | .wrPllb_1 v => Sys2Proof.Machine.execWrPllb_1 v s
  | .wrPllb_2 v => Sys2Proof.Machine.execWrPllb_2 v s
  | .wrPllb_3 v => Sys2Proof.Machine.execWrPllb_3 v s
  | .wrPllb_4 v => Sys2Proof.Machine.execWrPllb_4 v s
  | .wrPllb_5 v => Sys2Proof.Machine.execWrPllb_5 v s
  | .wrPllb_6 v => Sys2Proof.Machine.execWrPllb_6 v s
  | .wrPllb_7 v => Sys2Proof.Machine.execWrPllb_7 v s
  | .wrMs0_0 v => Sys2Proof.Machine.execWrMs0_0 v s
  | .wrMs0_1 v => Sys2Proof.Machine.execWrMs0_1 v s
  | .wrMs0_2 v => Sys2Proof.Machine.execWrMs0_2 v s
  | .wrMs0_3 v => Sys2Proof.Machine.execWrMs0_3 v s
  | .wrMs0_4 v => Sys2Proof.Machine.execWrMs0_4 v s
  | .wrMs0_5 v => Sys2Proof.Machine.execWrMs0_5 v s
  | .wrMs0_6 v => Sys2Proof.Machine.execWrMs0_6 v s
  | .wrMs0_7 v => Sys2Proof.Machine.execWrMs0_7 v s
  | .wrMs1_0 v => Sys2Proof.Machine.execWrMs1_0 v s
  | .wrMs1_1 v => Sys2Proof.Machine.execWrMs1_1 v s
  | .wrMs1_2 v => Sys2Proof.Machine.execWrMs1_2 v s
  | .wrMs1_3 v => Sys2Proof.Machine.execWrMs1_3 v s
  | .wrMs1_4 v => Sys2Proof.Machine.execWrMs1_4 v s
  | .wrMs1_5 v => Sys2Proof.Machine.execWrMs1_5 v s
  | .wrMs1_6 v => Sys2Proof.Machine.execWrMs1_6 v s
  | .wrMs1_7 v => Sys2Proof.Machine.execWrMs1_7 v s
  | .wrMs2_0 v => Sys2Proof.Machine.execWrMs2_0 v s
  | .wrMs2_1 v => Sys2Proof.Machine.execWrMs2_1 v s
  | .wrMs2_2 v => Sys2Proof.Machine.execWrMs2_2 v s
  | .wrMs2_3 v => Sys2Proof.Machine.execWrMs2_3 v s
  | .wrMs2_4 v => Sys2Proof.Machine.execWrMs2_4 v s
  | .wrMs2_5 v => Sys2Proof.Machine.execWrMs2_5 v s
  | .wrMs2_6 v => Sys2Proof.Machine.execWrMs2_6 v s
  | .wrMs2_7 v => Sys2Proof.Machine.execWrMs2_7 v s
  | .wrPllrstA => Sys2Proof.Machine.execWrPllrstA s
  | .wrPllrstB => Sys2Proof.Machine.execWrPllrstB s
  | .wrClk0En => Sys2Proof.Machine.execWrClk0En s
  | .wrClk1En => Sys2Proof.Machine.execWrClk1En s
  | .wrClk2En => Sys2Proof.Machine.execWrClk2En s

end Sys2Proof.Machine
end

