-- ==== Sys2Proof/Machine/Ports.lean ====
section
/-! DEFINITION. What the host and the transport see: the outputs of the port list (10_state.md R21, R16, R17) and the
observation of 44_sequencer.md R106. -/

namespace Sys2Proof.Machine

open Sys2Proof.Config

/-- The output ports (R21). The payload of the bus request port is given while a request is outstanding. -/
structure Outputs where
  cmdReady : Bool
  busy : Bool
  doneOut : Bool
  failOut : Bool
  status : BitVec 3
  errInfo : Option ErrT
  seqState : BitVec 3
  widx : BitVec 5
  busReqValid : Bool
  busPayload : Option (BusAddr × Byte × Byte)
  deriving DecidableEq, Repr

/-- The outputs in a state; `cmd_ready` equals NOT BUSY (R21, R104). -/
def State.outputs (s : State) : Outputs :=
  { cmdReady := !s.flags.busy
    busy := s.flags.busy
    doneOut := s.flags.doneFlag
    failOut := s.flags.failFlag
    status := s.flags.status.code
    errInfo := s.flags.errInfo
    seqState := s.seq.code
    widx := s.widx
    busReqValid := s.busReq.isSome
    busPayload := s.busReq.map (fun w => (s.cfg.devAddr, w.extractLsb' 8 8, w.extractLsb' 0 8)) }

/-- What a claim about the block can observe: the trace, the result and the position (R106). -/
structure Observation where
  trace : List Event
  outputs : Outputs
  deriving DecidableEq, Repr

/-- The observation in a state (R106). -/
def State.observe (s : State) : Observation := ⟨s.trace, s.outputs⟩

end Sys2Proof.Machine
end

