-- ==== Sys2Proof/Machine/Fetch.lean ====
section
/-! DEFINITION. What a step fetches and from which port, and what it adds around `exec`. An outstanding write comes first,
and its payload is decoded (30_encoding.md R64): the block does nothing else until it is answered (20_memory.md R32, R39;
43_register_pack_write.md R91). Then comes the command in progress; then, with BUSY = 0, a lone internal operation (log
entry 16); and last the command the host presents (44_sequencer.md R104). With nothing to do the block waits: a next
state. -/

namespace Sys2Proof.Machine

/-- The outcome of an instruction, with the sequencer's next move applied to a next state. -/
def thenResume (o : Host.Outcome State Fault Refusal) : Host.Outcome State Fault Refusal :=
  match o with
  | .next s => .next (resume s)
  | .fault r => .fault r
  | .refused r => .refused r

/-- Look for the answer to the outstanding write `w` and go on. A payload that is no kind of R64 is completed as the
WRITE_REG it came from (R91 checks nothing; log entry 29). -/
def stepOutstanding (w : BusWord) (s : State) : Host.Outcome State Fault Refusal :=
  match decodeBus w with
  | .ok i => thenResume (exec i s)
  | .error _ => thenResume (exec (.writeReg (w.extractLsb' 8 8) (w.extractLsb' 0 8)) s)

/-- Consider the host command word `w` (R104): an inadmissible word is refused ILLEGAL (30_encoding.md R59, R125). -/
def stepCommand (w : CmdWord) (s : State) : Host.Outcome State Fault Refusal :=
  match decodeHost w with
  | .ok i => exec i s
  | .error _ => .next (refuseCommand .illegal s)

/-- Run the lone internal operation `w`. -/
def stepUop (w : UopWord) (s : State) : Host.Outcome State Fault Refusal :=
  match decodeUop w with
  | .ok i => exec i s
  | .error _ => .refused (.reservedOperation w)

/-- A step in which reset is not asserted. "The block waits for the answer and does nothing else meanwhile" (R91): while a
write is outstanding neither a command nor a lone internal operation runs, and neither runs while BUSY = 1 (R104; for the
lone operation log entry 34). -/
def stepRunning (s : State) : Host.Outcome State Fault Refusal :=
  match s.busReq with
  | some w => stepOutstanding w s
  | none =>
    if s.flags.busy then (runSequence s).outcome
    else
      match s.uop with
      | some w => stepUop w { s with uop := none }
      | none =>
        match s.cmds with
        | [] => .next s
        | w :: rest => stepCommand w { s with cmds := rest }

/-- `s` with `w` on the internal operation line, and the block free for it. -/
def State.placeUop (s : State) (w : UopWord) : State :=
  { s with
    rst := []
    uop := some w
    busReq := none
    inBlock := false
    flags := { s.flags with busy := false } }

/-- `s` with `w` as the outstanding bus write and nothing to go on with after it. -/
def State.placeBusWrite (s : State) (w : BusWord) : State :=
  { s with
    rst := []
    uop := none
    busReq := some w
    inBlock := false
    flags := { s.flags with busy := false } }

/-- `s` with `w` as the command the host presents, and the block ready for it. -/
def State.placeCommand (s : State) (w : CmdWord) : State :=
  { s with
    rst := []
    uop := none
    busReq := none
    inBlock := false
    flags := { s.flags with busy := false }
    cmds := w :: s.cmds }

end Sys2Proof.Machine
end

