-- ==== Sys2Proof/Machine/Step.lean ====
section
/-! DEFINITION. One step of the machine. The reset line wins over everything (60_exceptions.md R127). -/

namespace Sys2Proof.Machine

/-- One step. -/
def step (s : State) : Host.Outcome State Fault Refusal :=
  match s.rst with
  | true :: rest => .next (resetEvent { s with rst := rest })
  | false :: rest => stepRunning { s with rst := rest }
  | [] => stepRunning s

/-- `s` with the instruction whose bits are `w` where the very next step fetches it: on the internal operation line
(`nbits` up to 8), as the outstanding bus write (up to 16), or as the command the host presents (more). What would keep
the step from fetching it is taken away: an asserted reset, another port's work, a command in progress. -/
def State.withFetchWord (s : State) (nbits w : Nat) : State :=
  if nbits ≤ 8 then s.placeUop (BitVec.ofNat 24 w)
  else if nbits ≤ 16 then s.placeBusWrite (BitVec.ofNat 16 w)
  else s.placeCommand (BitVec.ofNat 37 w)

end Sys2Proof.Machine
end

