-- ==== Sys2Proof/Safety.lean ====
section
/-! DEFINITION. What the claims are stated in terms of: the microprogram of 44_sequencer.md R103 as the spec tables it,
UNPACK8 (30_encoding.md R60), the exact domain (40_freq_planner.md R76), which bus writes the block may emit
(30_encoding.md R59), and the invariant of the machine driven from its host port. -/

namespace Sys2Proof.Machine

open Sys2Proof.Config

/-- UNPACK8 (R60): the triple, zero-extended to 32 bits, and EXTRA. A law to test against, no unit of the block. -/
def unpack8 (b : Buffer) : Triple × Byte :=
  ({ p1 := (b.b2.extractLsb' 0 2 ++ b.b3 ++ b.b4 : BitVec 18).setWidth 32
     p2 := (b.b5.extractLsb' 0 4 ++ b.b6 ++ b.b7 : BitVec 20).setWidth 32
     p3 := (b.b5.extractLsb' 4 4 ++ b.b0 ++ b.b1 : BitVec 20).setWidth 32 },
   b.b2 &&& 0xFC)

/-- pll_freq of a target frequency (R70 step 2). -/
def planPll (t : Nat) : Nat := planDivider t * t

/-- The exact domain (R76). -/
def exactDomain (t ref : Nat) : Prop :=
  438597 ≤ t ∧ t ≤ 225000000 ∧ 0 < ref ∧ planPll t / ref ≤ 255 ∧ 4 ≤ planPll t / ref

/-- The microprogram, row by row as R103 tables it: `a` is the PLL triple and `m` the multisynth triple. -/
def microprogram (a m : Triple) : List (Byte × Byte) :=
  [ (26, a.p3.extractLsb' 8 8),
    (27, a.p3.extractLsb' 0 8),
    (28, (a.p1.extractLsb' 16 2).setWidth 8),
    (29, a.p1.extractLsb' 8 8),
    (30, a.p1.extractLsb' 0 8),
    (31, a.p3.extractLsb' 16 4 ++ a.p2.extractLsb' 16 4),
    (32, a.p2.extractLsb' 8 8),
    (33, a.p2.extractLsb' 0 8),
    (42, m.p3.extractLsb' 8 8),
    (43, m.p3.extractLsb' 0 8),
    (44, (m.p1.extractLsb' 16 2).setWidth 8),
    (45, m.p1.extractLsb' 8 8),
    (46, m.p1.extractLsb' 0 8),
    (47, m.p3.extractLsb' 16 4 ++ m.p2.extractLsb' 16 4),
    (48, m.p2.extractLsb' 8 8),
    (49, m.p2.extractLsb' 0 8),
    (177, 0x20),
    (16, 0x4F) ]

/-- The datapath after PLAN for target `t` (R70). -/
def plannedFor (c : Choice) (ref t : Word32) (x : Datapath) : Datapath :=
  planDatapath c ref { x with tf := t }

/-- The PLL triple the datapath determines (R80, R83). -/
def pllTripleOf (p : Params) (x : Datapath) : Triple := encPllOf p.encPll x.mult x.num x.den

/-- The multisynth triple the datapath determines (R85). -/
def msTripleOf (p : Params) (x : Datapath) : Triple := encMsOf p.encMs x.d

/-- The 18 writes of the command whose plan the datapath holds. -/
def State.micro (s : State) : List (Byte × Byte) :=
  microprogram (pllTripleOf s.params s.dp) (msTripleOf s.params s.dp)

/-- The 18 writes of a SET_FREQUENCY `t` accepted in state `s` (R101, R103). -/
def microFor (s : State) (t : Word32) : List (Byte × Byte) :=
  State.micro { s with dp := plannedFor s.params.numArith s.cfg.refFreq t s.dp }

/-- A write as a trace entry answered `Ok`. -/
def okEvent (a7 : BusAddr) (w : Byte × Byte) : Event := ⟨a7, w.1, w.2, .ok⟩

/-- A write as a trace entry answered `Err(e)`. -/
def errEvent (a7 : BusAddr) (e : ErrT) (w : Byte × Byte) : Event := ⟨a7, w.1, w.2, .err e⟩

/-- R59's "never emitted" rows as a check of an emitted write. -/
def emittable (reg val : Byte) : Bool :=
  let r := reg.toNat
  if 26 ≤ r ∧ r ≤ 65 then decide ((r - 26) % 8 = 2 → val.extractLsb' 2 6 = 0)
  else if r = 177 then decide (val = 0x20 ∨ val = 0x80)
  else if r = 16 ∨ r = 17 ∨ r = 18 then decide (val = 0x4F)
  else false

/-- The registers SET_FREQUENCY writes (R103, D23): the PLL A block, the MS0 block, PLL_RESET, CLK0 control. -/
def hostReachable (reg : Byte) : Bool :=
  let r := reg.toNat
  decide (26 ≤ r ∧ r ≤ 33 ∨ 42 ≤ r ∧ r ≤ 49 ∨ r = 177 ∨ r = 16)

/-- R17: how BUSY, DONE, FAIL, STATUS and ERR_INFO go together. -/
def Flags.consistent (f : Flags) : Prop :=
  (f.busy = true → f.doneFlag = false ∧ f.failFlag = false ∧ f.status = .none) ∧
  (f.doneFlag = true ↔ f.status = .ok) ∧
  (f.failFlag = true ↔ f.status ≠ .none ∧ f.status ≠ .ok) ∧
  (f.errInfo.isSome = true ↔ f.status = .transportError)

/-- R11, R12: a constructed block has a legal address and a nonzero reference. -/
def Cfg.legal (c : Cfg) : Prop :=
  c.constructed = true → (c.devAddr = 0x60 ∨ c.devAddr = 0x61) ∧ c.refFreq ≠ 0

/-- R16, R102: which WIDX and BUSY go with which SEQ_STATE between steps. Only a constructed block leaves Idle (R124). -/
def State.positionLegal (s : State) : Prop :=
  (s.cfg.constructed = false → s.seq = .idle) ∧
  match s.seq with
  | .idle => s.widx = 0 ∧ s.flags.busy = false
  | .computedParameters => s.widx.toNat ≤ 7 ∧ s.flags.busy = true
  | .pllProgrammed => 8 ≤ s.widx.toNat ∧ s.widx.toNat ≤ 15 ∧ s.flags.busy = true
  | .multisynthProgrammed => s.widx = 16 ∧ s.flags.busy = true
  | .pllReset => s.widx = 17 ∧ s.flags.busy = true
  | .clockEnabled => s.widx = 18 ∧ s.flags.busy = false
  | .failed => s.widx.toNat ≤ 17 ∧ s.flags.busy = false

/-- Whether SEQ_STATE is one in which a parameter block is being written (R102). -/
def SeqState.inBlockWrite : SeqState → Bool
  | .computedParameters => true
  | .pllProgrammed => true
  | .idle => false
  | .multisynthProgrammed => false
  | .pllReset => false
  | .clockEnabled => false
  | .failed => false

/-- While BUSY = 1 the plan is that of x[TF], and exactly one write is outstanding: number WIDX of the microprogram
(R39, R102, R103). While BUSY = 0 none is (R23). -/
def State.outstandingLegal (s : State) : Prop :=
  if s.flags.busy = true then
    s.cfg.constructed = true ∧
    planDatapath s.params.numArith s.cfg.refFreq s.dp = s.dp ∧
    s.busReq = (s.micro[s.widx.toNat]?).map (fun w => busWord w.1 w.2)
  else s.busReq = none

/-- The bookkeeping of a block write in progress: base, offset and the packed bytes (R13, R15, R92). -/
def State.blockLegal (s : State) : Prop :=
  s.inBlock = s.seq.inBlockWrite ∧
  (s.seq = .computedParameters →
    s.dp.base = 26 ∧ s.dp.off.toNat = s.widx.toNat ∧
    s.buf.toList = ((s.micro.take 8).map Prod.snd)) ∧
  (s.seq = .pllProgrammed →
    s.dp.base = 42 ∧ s.dp.off.toNat + 8 = s.widx.toNat ∧
    s.buf.toList = (((s.micro.drop 8).take 8).map Prod.snd))

/-- Inside the loop of an ENCODE_AND_WRITE (R92) the outstanding write is the loop's own: register x[BASE] + x[OFF], byte
B[x[OFF]], x[OFF] below 8. -/
def State.loopLegal (s : State) : Prop :=
  s.inBlock = true →
    s.dp.off.toNat < 8 ∧
    s.busReq = (s.buf.toList[s.dp.off.toNat]?).map (fun v => busWord (s.dp.base + s.dp.off.setWidth 8) v)

/-- The invariant of the machine driven from its host port: the internal operation line is not driven, the device
registers are in canonical form, and the configuration, the flags, the position and the outstanding write are as the
rules say. -/
def State.Inv (s : State) : Prop :=
  s.uop = none ∧ s.dev.wf = true ∧ s.cfg.legal ∧ s.flags.consistent ∧ s.positionLegal ∧ s.outstandingLegal ∧
  s.blockLegal

/-- R39, R102, R103, R121: the trace ends with the writes of the current (or last) command. While BUSY = 1, and in
ClockEnabled, these are the first WIDX writes of the microprogram, all answered `Ok`; in Failed they are followed by
write number WIDX, answered with an error. -/
def State.traceLegal (s : State) : Prop :=
  match s.seq with
  | .idle => True
  | .failed =>
    ∃ before e,
      s.trace = before ++ (s.micro.take s.widx.toNat).map (okEvent s.cfg.devAddr) ++
        ((s.micro.drop s.widx.toNat).take 1).map (errEvent s.cfg.devAddr e) ∧
      (s.flags.status = .transportError → s.flags.errInfo = some e)
  | .computedParameters | .pllProgrammed | .multisynthProgrammed | .pllReset | .clockEnabled =>
    ∃ before, s.trace = before ++ (s.micro.take s.widx.toNat).map (okEvent s.cfg.devAddr)

/-- The last entry of the trace for one device register. -/
def lastWrite (a7 : BusAddr) (reg : Byte) (tr : List Event) : Option Event :=
  (tr.filter (fun e => decide (e.a7 = a7) && decide (e.reg = reg))).getLast?

/-- R44: "the device's register contents after a run are the last `Ok`-answered value per address, and any value for the
address of a failed write". -/
def State.deviceAgrees (s : State) : Prop :=
  ∀ (a7 : BusAddr) (reg : Byte) (e : Event),
    lastWrite a7 reg s.trace = some e → e.answer = .ok → s.devReg a7 reg = some e.val

/-- Nothing but the listed parts of the state may differ after an operation that issues bus writes: the configuration,
the parameters and everything the other agents present stay (R12, R90 to R94). -/
def State.sameOutside (s s' : State) : Prop :=
  s'.cfg = s.cfg ∧ s'.cmds = s.cmds ∧ s'.uop = s.uop ∧ s'.rst = s.rst ∧ s'.params = s.params

/-- Every device register other than those of the device `a7` listed in `regs` reads as before. -/
def State.devSameExcept (s s' : State) (a7 : BusAddr) (regs : List Byte) : Prop :=
  ∀ (a : BusAddr) (r : Byte), ¬ (a = a7 ∧ r ∈ regs) → s'.devReg a r = s.devReg a r

/-- What one bus write answered `Ok` does and leaves alone (R33, R91): one trace entry, WIDX + 1, the register written. -/
def WroteOk (s s' : State) (reg val : Byte) : Prop :=
  s.sameOutside s' ∧ s'.dp = s.dp ∧ s'.buf = s.buf ∧ s'.seq = s.seq ∧ s'.flags = s.flags ∧ s'.inBlock = s.inBlock ∧
  s'.widx = s.widx + 1 ∧ s'.busReq = none ∧ s'.trace = s.trace ++ [⟨s.cfg.devAddr, reg, val, .ok⟩] ∧
  s'.devReg s.cfg.devAddr reg = some val ∧ s.devSameExcept s' s.cfg.devAddr [reg]

/-- What one bus write answered `Err(e)` does and leaves alone (R33, R36, R91, R121): one trace entry, WIDX kept, the
entry of TransportError(e); of the written register nothing is said. -/
def WroteErr (s s' : State) (reg val : Byte) (e : ErrT) : Prop :=
  s.sameOutside s' ∧ s'.dp = s.dp ∧ s'.buf = s.buf ∧ s'.seq = .failed ∧
  s'.flags = ⟨false, false, true, .transportError, some e⟩ ∧ s'.inBlock = false ∧ s'.widx = s.widx ∧ s'.busReq = none ∧
  s'.trace = s.trace ++ [⟨s.cfg.devAddr, reg, val, .err e⟩] ∧ s.devSameExcept s' s.cfg.devAddr [reg]

/-- What one bus write not answered yet does and leaves alone (R21, R32): the request is outstanding. That its register
keeps the value known of it is the model's choice (log entry 36). -/
def WriteHeld (s s' : State) (reg val : Byte) : Prop :=
  s.sameOutside s' ∧ s'.dp = s.dp ∧ s'.buf = s.buf ∧ s'.seq = s.seq ∧ s'.flags = s.flags ∧ s'.inBlock = s.inBlock ∧
  s'.widx = s.widx ∧ s'.busReq = some (busWord reg val) ∧ s'.trace = s.trace ∧ s.devSameExcept s' s.cfg.devAddr []

/-- The instruction `i` is the one bus write [reg, val], whatever the transport answers and in every state. In a state in
which another write is outstanding no step runs `i` (R91); that `exec` replaces the request there is log entry 35. -/
def IsBusWrite (i : Instr) (reg val : Byte) : Prop :=
  ∀ s : State,
    (∀ rest, s.rsps = .answered .ok :: rest → ∃ s', exec i s = .next s' ∧ s'.rsps = rest ∧ WroteOk s s' reg val) ∧
    (∀ e rest, s.rsps = .answered (.err e) :: rest →
      ∃ s', exec i s = .next s' ∧ s'.rsps = rest ∧ WroteErr s s' reg val e) ∧
    (∀ rest, s.rsps = .silent :: rest → ∃ s', exec i s = .next s' ∧ s'.rsps = rest ∧ WriteHeld s s' reg val) ∧
    (s.rsps = [] → ∃ s', exec i s = .next s' ∧ s'.rsps = [] ∧ WriteHeld s s' reg val)

/-- `n` answers `Ok`. -/
def oks (n : Nat) : List BusRsp := List.replicate n (.answered .ok)

/-- The eight writes of a block: base + k, byte k (R92). -/
def blockWrites (base : Byte) (b : Buffer) : List (Byte × Byte) :=
  [(base, b.b0), (base + 1, b.b1), (base + 2, b.b2), (base + 3, b.b3), (base + 4, b.b4), (base + 5, b.b5),
    (base + 6, b.b6), (base + 7, b.b7)]

/-- Every listed register of the device at `a7` holds its listed value. -/
def State.holds (s : State) (a7 : BusAddr) (ws : List (Byte × Byte)) : Prop :=
  ∀ w, w ∈ ws → s.devReg a7 w.1 = some w.2

/-- SEQ_STATE while write `k` is issued (R103). -/
def seqWhileIssued (k : Nat) : SeqState :=
  if k < 8 then .computedParameters
  else if k < 16 then .pllProgrammed
  else if k = 16 then .multisynthProgrammed
  else .pllReset

/-- An answer with its error value renamed. -/
def Answer.mapErr (f : ErrT → ErrT) : Answer → Answer
  | .ok => .ok
  | .err e => .err (f e)

/-- What the response port shows with the error value renamed. -/
def BusRsp.mapErr (f : ErrT → ErrT) : BusRsp → BusRsp
  | .silent => .silent
  | .answered a => .answered (a.mapErr f)

/-- A state with every error value renamed, past, present and to come. -/
def State.mapErr (f : ErrT → ErrT) (s : State) : State :=
  { s with
    flags := { s.flags with errInfo := s.flags.errInfo.map f }
    trace := s.trace.map (fun e => { e with answer := e.answer.mapErr f })
    rsps := s.rsps.map (BusRsp.mapErr f) }

/-- An outcome with every error value renamed. -/
def mapErrOutcome (f : ErrT → ErrT) :
    Host.Outcome State Fault Refusal → Host.Outcome State Fault Refusal
  | .next s => .next (s.mapErr f)
  | .fault r => .fault r
  | .refused r => .refused r

/-- The block waits for a host command: nothing is outstanding and nothing is in progress (R142). -/
def State.ready (s : State) : Prop :=
  s.rst = [] ∧ s.uop = none ∧ s.busReq = none ∧ s.flags.busy = false

end Sys2Proof.Machine
end

