-- ==== Sys2Proof/Certificates/Slice0/Obligations.lean ====
section
/-! DEFINITION. The statements for the provers. -/

open Sys2Proof Sys2Proof.Machine Sys2Proof.Config

/-! ## Encodings -/

/-- Every well-formed instruction, with every operand, decodes from its own word. The operand lines of the internal
operations are the model's (log entry 15). -/
def Obligations.DecodeOfEncodeIsTheInstruction : Prop :=
  ∀ i : Instr, i.wellFormed = true → decode (encode i) = .ok i

/-- A word that decodes is the word of what it decodes to, which is well formed: no two words mean the same and no bit
of a word is ignored. The operand lines of the internal operations are the model's (log entry 15). -/
def Obligations.EncodeOfDecodeIsTheWord : Prop :=
  ∀ (w : Word) (i : Instr), decode w = .ok i → encode i = w ∧ i.wellFormed = true

/-- Words written out from the spec's encodings (R51, R52, R53; 95_test_vectors.md T10, T13) decode to what they stand
for, and words the spec names as no operation do not decode. -/
def Obligations.WrittenOutWordsDecode : Prop :=
  decodeHost 0x00017D7840#37 = .ok (.construct false 25000000) ∧
  decodeHost 0x01019BFCC0#37 = .ok (.construct true 27000000) ∧
  decodeHost 0x0200989680#37 = .ok (.setFrequency 10000000) ∧
  decodeTableWord 8 0x2 = some .plan ∧
  decodeTableWord 8 0x5 = some .pack8 ∧
  decodeBus 0x1FF8#16 = .ok (.wrPlla_5 0xF8) ∧
  decodeBus 0x2C01#16 = .ok (.wrMs0_2 0x01) ∧
  decodeBus 0xB120#16 = .ok .wrPllrstA ∧
  decodeBus 0xB180#16 = .ok .wrPllrstB ∧
  decodeBus 0x104F#16 = .ok .wrClk0En ∧
  decodeBus 0xB1A0#16 = .error (.notAWrite 0xB1 0xA0) ∧
  decodeBus 0x1900#16 = .error (.notAWrite 0x19 0x00)

/-- R51: bits 36..33 of a command word are `op`, bit 32 is `as`, bits 31..0 are `f`; R59: `op` in 0x2 .. 0xF and
SET_FREQUENCY with `as` = 1 are no command. Said of the word as a number. -/
def Obligations.HostWordFieldsByArithmetic : Prop :=
  ∀ w : CmdWord,
    (w.toNat / 2 ^ 33 = 0 →
      decodeHost w = .ok (.construct (decide (w.toNat / 2 ^ 32 % 2 = 1)) (BitVec.ofNat 32 (w.toNat % 2 ^ 32)))) ∧
    (w.toNat / 2 ^ 33 = 1 ∧ w.toNat / 2 ^ 32 % 2 = 0 →
      decodeHost w = .ok (.setFrequency (BitVec.ofNat 32 (w.toNat % 2 ^ 32)))) ∧
    (w.toNat / 2 ^ 33 = 1 ∧ w.toNat / 2 ^ 32 % 2 = 1 → decodeHost w = .error .reservedAddrSel) ∧
    (2 ≤ w.toNat / 2 ^ 33 → decodeHost w = .error (.illegalOp (BitVec.ofNat 4 (w.toNat / 2 ^ 33))))

/-- R64 and R59: which payloads are a write of this block. -/
def Obligations.BusPayloadsAreClassified : Prop :=
  ∀ reg val : Byte,
    (∃ i, decodeBus (busWord reg val) = .ok i) ↔
      (26 ≤ reg.toNat ∧ reg.toNat ≤ 65) ∨
      (reg.toNat = 177 ∧ (val = 0x20 ∨ val = 0x80)) ∨
      ((reg.toNat = 16 ∨ reg.toNat = 17 ∨ reg.toNat = 18) ∧ val = 0x4F)

/-! ## The step -/

/-- A step runs the instruction decoded at the port it fetches from (R104). A host command is taken off the queue. The
other clauses are the model's choice: an outstanding request is decoded as the bus write it is, run, and then the
sequencer goes on (`thenResume`; log entry 17); a lone internal operation is taken off its line when no write is
outstanding and BUSY = 0 (log entries 16 and 34); a deasserted reset level is taken off the reset line and changes nothing
else (log entry 5). -/
def Obligations.StepRunsTheDecodedInstruction : Prop :=
  (∀ (s : State) (w : CmdWord) (rest : List CmdWord) (i : Instr),
    s.ready → s.cmds = w :: rest → decodeHost w = .ok i → step s = exec i { s with cmds := rest }) ∧
  (∀ (s : State) (w : BusWord) (i : Instr),
    s.rst = [] → s.busReq = some w → decodeBus w = .ok i → step s = thenResume (exec i s)) ∧
  (∀ (s : State) (w : UopWord) (i : Instr),
    s.rst = [] → s.busReq = none → s.flags.busy = false → s.uop = some w → decodeUop w = .ok i →
      step s = exec i { s with uop := none }) ∧
  (∀ (s : State) (rest : List Bool),
    s.rst = false :: rest → step s = stepRunning { s with rst := rest }) ∧
  (∀ s : State, s.rst = [] → step s = stepRunning s)

/-- R127, R140, R141: an asserted reset wins over everything; the block's state goes to its reset values, no write is
issued, and every device register but that of an outstanding write keeps its value. That the trace, a record of the run,
survives the reset is the model's choice (log entries 5 and 33). -/
def Obligations.ResetWinsOverEverything : Prop :=
  ∀ (s : State) (rest : List Bool), s.rst = true :: rest →
    ∃ s', step s = .next s' ∧
      s'.cfg.constructed = false ∧ s'.seq = .idle ∧ s'.widx = 0 ∧
      s'.flags = ⟨false, false, false, .none, none⟩ ∧ s'.busReq = none ∧ s'.trace = s.trace ∧
      (∀ (a : BusAddr) (r : Byte),
        (∀ w, s.busReq = some w → ¬ (a = s.cfg.devAddr ∧ r = w.extractLsb' 8 8)) → s'.devReg a r = s.devReg a r)

/-- R104, under the spec's decision D12: while BUSY = 1 a presented command is neither accepted nor refused. A step
without reset is the same whatever commands are presented, and they stay presented; CONSTRUCT and SET_FREQUENCY have no
effect. -/
def Obligations.CommandsWaitWhileBusy : Prop :=
  (∀ s : State, s.flags.busy = true → s.rst.head? ≠ some true →
    ∃ s', step s = .next s' ∧ s'.cmds = s.cmds ∧
      ∀ presented : List CmdWord, step { s with cmds := presented } = .next { s' with cmds := presented }) ∧
  (∀ (s : State) (a : Bool) (ref : Word32), s.flags.busy = true → exec (.construct a ref) s = .next s) ∧
  (∀ (s : State) (t : Word32), s.flags.busy = true → exec (.setFrequency t) s = .next s)

/-- R32, R39, R91: "the block waits for the answer and does nothing else meanwhile". While a write is outstanding a step
without reset is the same whatever commands are presented and whatever stands on the lone operation line, and both stay
where they are. That there is a lone operation line is the model's choice (log entry 16). -/
def Obligations.NothingElseRunsWhileAWriteIsOutstanding : Prop :=
  ∀ (s : State) (w : BusWord), s.busReq = some w → s.rst.head? ≠ some true →
    ∃ s', step s = .next s' ∧ s'.cmds = s.cmds ∧ s'.uop = s.uop ∧
      ∀ (presented : List CmdWord) (lone : Option UopWord),
        step { s with cmds := presented, uop := lone } = .next { s' with cmds := presented, uop := lone }

/-- R39, R44, R91: the answer to the outstanding write is the next entry of the trace, before any other write's; whatever
else the step does comes after it. -/
def Obligations.OutstandingWriteIsTheNextTraceEntry : Prop :=
  ∀ (s : State) (w : BusWord) (a : Answer) (rest : List BusRsp),
    s.busReq = some w → s.rst.head? ≠ some true → s.rsps = .answered a :: rest →
      ∃ s' new, step s = .next s' ∧
        s'.trace = s.trace ++ ⟨s.cfg.devAddr, w.extractLsb' 8 8, w.extractLsb' 0 8, a⟩ :: new

/-- R32, R109, R142: with no answer to the outstanding write, and with no command presented, the block waits; the state
does not change. No answer is either form of it: the response port shows nothing any more, or it is silent at this look,
which is then over. One look a step, and that the register of the outstanding write keeps the value known of it, are the
model's choice (log entries 3 and 36). -/
def Obligations.BlockWaitsForTransportAndHost : Prop :=
  (∀ (s : State) (w : BusWord), s.rst = [] → s.busReq = some w →
    (s.rsps = [] → step s = .next s) ∧
    (∀ rest, s.rsps = .silent :: rest → step s = .next { s with rsps := rest })) ∧
  (∀ s : State, s.ready → s.cmds = [] → step s = .next s)

/-! ## Host commands -/

/-- R100: what CONSTRUCT does in every state. It rests on two decisions of the spec: D13, that CONSTRUCT is silent on the
bus and a second CONSTRUCT is refused ILLEGAL; D10, that ref = 0 is refused DOMAIN. -/
def Obligations.ConstructOutcome : Prop :=
  ∀ (s : State) (a : Bool) (ref : Word32),
    (s.flags.busy = true → exec (.construct a ref) s = .next s) ∧
    (s.flags.busy = false → s.cfg.constructed = true →
      exec (.construct a ref) s = .next { s with flags := ⟨false, false, true, .illegal, none⟩ }) ∧
    (s.flags.busy = false → s.cfg.constructed = false → ref = 0 →
      exec (.construct a ref) s = .next { s with flags := ⟨false, false, true, .domain, none⟩ }) ∧
    (s.flags.busy = false → s.cfg.constructed = false → ref ≠ 0 →
      exec (.construct a ref) s = .next
        { s with
          cfg := ⟨if a then 0x61 else 0x60, ref, true⟩
          flags := ⟨false, true, false, .ok, none⟩ })

/-- R122 to R125, R127: the refusals of a command word, in their order; each changes nothing but the flags. It rests on
four decisions of the spec: D9, that nothing is written for t = 0; D10, that ref = 0 is refused; D13, that a second
CONSTRUCT is ILLEGAL; D30, the codes and their order. -/
def Obligations.RefusalsInOrder : Prop :=
  ∀ (s : State) (w : CmdWord) (rest : List CmdWord), s.ready → s.cmds = w :: rest →
    (2 ≤ w.toNat / 2 ^ 33 →
      step s = .next { s with cmds := rest, flags := ⟨false, false, true, .illegal, none⟩ }) ∧
    (w.toNat / 2 ^ 33 = 1 → w.toNat / 2 ^ 32 % 2 = 1 →
      step s = .next { s with cmds := rest, flags := ⟨false, false, true, .illegal, none⟩ }) ∧
    (w.toNat / 2 ^ 33 = 1 → w.toNat / 2 ^ 32 % 2 = 0 → s.cfg.constructed = false →
      step s = .next { s with cmds := rest, flags := ⟨false, false, true, .notReady, none⟩ }) ∧
    (w.toNat / 2 ^ 33 = 1 → w.toNat / 2 ^ 32 % 2 = 0 → s.cfg.constructed = true → w.toNat % 2 ^ 32 = 0 →
      step s = .next { s with cmds := rest, flags := ⟨false, false, true, .domain, none⟩ }) ∧
    (w.toNat / 2 ^ 33 = 0 → s.cfg.constructed = true →
      step s = .next { s with cmds := rest, flags := ⟨false, false, true, .illegal, none⟩ }) ∧
    (w.toNat / 2 ^ 33 = 0 → s.cfg.constructed = false → w.toNat % 2 ^ 32 = 0 →
      step s = .next { s with cmds := rest, flags := ⟨false, false, true, .domain, none⟩ })

/-- R101, R103: a SET_FREQUENCY whose 18 writes are all answered `Ok` issues the 18 writes of the microprogram in order
and ends in ClockEnabled with WIDX = 18, DONE = 1, STATUS = OK. Every register written holds its value, every other
device register and the configuration are unchanged. That the whole command is one step when every answer is there is the
model's choice (log entry 19). -/
def Obligations.SetFrequencyCompletes : Prop :=
  ∀ (s : State) (t : Word32) (rest : List BusRsp),
    s.flags.busy = false → s.cfg.constructed = true → t ≠ 0 → s.rsps = oks 18 ++ rest →
      ∃ s', exec (.setFrequency t) s = .next s' ∧
        s'.seq = .clockEnabled ∧ s'.widx = 18 ∧ s'.flags = ⟨false, true, false, .ok, none⟩ ∧
        s'.trace = s.trace ++ (microFor s t).map (okEvent s.cfg.devAddr) ∧
        s'.busReq = none ∧ s'.inBlock = false ∧ s'.rsps = rest ∧ s'.dp.tf = t ∧ s.sameOutside s' ∧
        s'.holds s.cfg.devAddr (microFor s t) ∧
        s.devSameExcept s' s.cfg.devAddr ((microFor s t).map Prod.fst)

/-- R121, R39: a SET_FREQUENCY whose write `k` is the first to fail issues writes 0 to `k` and no other, ends in Failed
with WIDX = `k` and the transport's error value in ERR_INFO, and undoes nothing. That all of it is one step is the
model's choice (log entry 19). -/
def Obligations.SetFrequencyAbortsAtTheFirstFailure : Prop :=
  ∀ (s : State) (t : Word32) (k : Nat) (e : ErrT) (rest : List BusRsp),
    s.flags.busy = false → s.cfg.constructed = true → t ≠ 0 → k < 18 →
    s.rsps = oks k ++ .answered (.err e) :: rest →
      ∃ s', exec (.setFrequency t) s = .next s' ∧
        s'.seq = .failed ∧ s'.widx.toNat = k ∧ s'.flags = ⟨false, false, true, .transportError, some e⟩ ∧
        s'.trace = s.trace ++ ((microFor s t).take k).map (okEvent s.cfg.devAddr) ++
          (((microFor s t).drop k).take 1).map (errEvent s.cfg.devAddr e) ∧
        s'.busReq = none ∧ s'.inBlock = false ∧ s'.rsps = rest ∧ s.sameOutside s' ∧
        s'.holds s.cfg.devAddr ((microFor s t).take k) ∧
        s.devSameExcept s' s.cfg.devAddr (((microFor s t).take (k + 1)).map Prod.fst)

/-- R103, R102, R32: a SET_FREQUENCY whose write `k` is not answered yet (the response port is silent at that look, or
shows nothing any more) waits with that write outstanding, BUSY = 1, WIDX = `k` and the SEQ_STATE R103 gives for `k`. The
one look, the one step, and that the register of the outstanding write keeps the value known of it, are the model's choice
(log entries 3, 19 and 36). -/
def Obligations.SetFrequencyWaitsAtAnUnansweredWrite : Prop :=
  ∀ (s : State) (t : Word32) (k : Nat) (later : List BusRsp),
    s.flags.busy = false → s.cfg.constructed = true → t ≠ 0 → k < 18 → s.rsps = oks k ++ later →
    later = [] ∨ later.head? = some .silent →
      ∃ s', exec (.setFrequency t) s = .next s' ∧
        s'.seq = seqWhileIssued k ∧ s'.widx.toNat = k ∧ s'.flags = ⟨true, false, false, .none, none⟩ ∧
        s'.busReq = ((microFor s t)[k]?).map (fun w => busWord w.1 w.2) ∧ s'.rsps = later.tail ∧
        s'.trace = s.trace ++ ((microFor s t).take k).map (okEvent s.cfg.devAddr) ∧ s.sameOutside s' ∧
        s'.holds s.cfg.devAddr ((microFor s t).take k) ∧
        s.devSameExcept s' s.cfg.devAddr (((microFor s t).take k).map Prod.fst)

/-- R32, R39, R102: a command waiting with write WIDX outstanding, once that write and the later ones are answered `Ok`,
issues the rest of its microprogram and ends in ClockEnabled. That it is one step is the model's choice (log entry 19).
Its other two forms are the two statements that follow. -/
def Obligations.WaitingCommandGoesOnToTheEnd : Prop :=
  ∀ (s : State) (rest : List BusRsp),
    s.Inv → s.flags.busy = true → s.rst = [] → s.rsps = oks (18 - s.widx.toNat) ++ rest →
      ∃ s', step s = .next s' ∧
        s'.seq = .clockEnabled ∧ s'.widx = 18 ∧ s'.flags = ⟨false, true, false, .ok, none⟩ ∧
        s'.trace = s.trace ++ (s.micro.drop s.widx.toNat).map (okEvent s.cfg.devAddr) ∧
        s'.busReq = none ∧ s'.rsps = rest ∧ s.sameOutside s' ∧
        s'.holds s.cfg.devAddr (s.micro.drop s.widx.toNat) ∧
        s.devSameExcept s' s.cfg.devAddr ((s.micro.drop s.widx.toNat).map Prod.fst)

/-- R121, R39: a command waiting with write WIDX outstanding, of whose writes from there on number `j` is the first to
fail, issues no write after that one and ends in Failed with WIDX at the failed write. That the `j` answers and the
failure fall in one step is the model's choice (log entry 19). -/
def Obligations.WaitingCommandAbortsAtTheFirstFailure : Prop :=
  ∀ (s : State) (j : Nat) (e : ErrT) (rest : List BusRsp),
    s.Inv → s.flags.busy = true → s.rst = [] → s.widx.toNat + j < 18 →
    s.rsps = oks j ++ .answered (.err e) :: rest →
      ∃ s', step s = .next s' ∧
        s'.seq = .failed ∧ s'.widx.toNat = s.widx.toNat + j ∧
        s'.flags = ⟨false, false, true, .transportError, some e⟩ ∧
        s'.trace = s.trace ++ ((s.micro.drop s.widx.toNat).take j).map (okEvent s.cfg.devAddr) ++
          ((s.micro.drop (s.widx.toNat + j)).take 1).map (errEvent s.cfg.devAddr e) ∧
        s'.busReq = none ∧ s'.rsps = rest ∧ s.sameOutside s' ∧
        s'.holds s.cfg.devAddr ((s.micro.drop s.widx.toNat).take j) ∧
        s.devSameExcept s' s.cfg.devAddr (((s.micro.drop s.widx.toNat).take (j + 1)).map Prod.fst)

/-- R32, R39, R102, R103: a command waiting with write WIDX outstanding, of whose writes from there on the next `j` are
answered `Ok` and the one after is not answered yet (the response port is silent at that look, or shows nothing any more),
waits again: write WIDX + `j` is outstanding, BUSY = 1, and WIDX and SEQ_STATE are those of that write. `j` = 0 is a look
at which nothing came. The one look, the one step, and that the register of the outstanding write keeps the value known of
it, are the model's choice (log entries 3, 19 and 36). -/
def Obligations.WaitingCommandWaitsAgainAtAnUnansweredWrite : Prop :=
  ∀ (s : State) (j : Nat) (later : List BusRsp),
    s.Inv → s.flags.busy = true → s.rst = [] → s.widx.toNat + j < 18 → s.rsps = oks j ++ later →
    later = [] ∨ later.head? = some .silent →
      ∃ s', step s = .next s' ∧
        s'.seq = seqWhileIssued (s.widx.toNat + j) ∧ s'.widx.toNat = s.widx.toNat + j ∧
        s'.flags = ⟨true, false, false, .none, none⟩ ∧
        s'.busReq = (s.micro[s.widx.toNat + j]?).map (fun w => busWord w.1 w.2) ∧ s'.rsps = later.tail ∧
        s'.trace = s.trace ++ ((s.micro.drop s.widx.toNat).take j).map (okEvent s.cfg.devAddr) ∧ s.sameOutside s' ∧
        s'.holds s.cfg.devAddr ((s.micro.drop s.widx.toNat).take j) ∧
        s.devSameExcept s' s.cfg.devAddr (((s.micro.drop s.widx.toNat).take j).map Prod.fst)

/-- R14: what an accepted SET_FREQUENCY does does not depend on what the datapath registers and the byte buffer held. -/
def Obligations.SetFrequencyReadsNoStaleRegister : Prop :=
  ∀ (s : State) (t : Word32) (x : Datapath) (b : Buffer),
    s.flags.busy = false → s.cfg.constructed = true → t ≠ 0 →
      exec (.setFrequency t) { s with dp := x, buf := b } = exec (.setFrequency t) s

/-- R110: a SET_FREQUENCY, however it ends, does not change which 18 writes a later one issues. -/
def Obligations.SuccessiveCommandsAreIndependent : Prop :=
  ∀ (s s' : State) (t t' : Word32), exec (.setFrequency t) s = .next s' → microFor s' t' = microFor s t'

/-! ## The planner -/

/-- R70, R73: PLAN's registers, for every nonzero target and reference; nothing but these six registers changes. The
arithmetic of num is the spec's decision D5, which the model takes as its default (log entry 10). -/
def Obligations.PlanResult : Prop :=
  ∀ s : State, s.dp.tf ≠ 0 → s.cfg.refFreq ≠ 0 → s.params.numArith = .byRule →
    ∃ s', exec .plan s = .next s' ∧
      s'.x .d = 900000000 / s.x .tf - 900000000 / s.x .tf % 2 ∧
      s'.x .pllf = s'.x .d * s.x .tf ∧
      s'.x .mult = s'.x .pllf / s.cfg.refFreq.toNat % 256 ∧
      s'.x .rem = s'.x .pllf % s.cfg.refFreq.toNat ∧
      s'.x .num = s'.x .rem * 1048575 / s.cfg.refFreq.toNat ∧
      s'.x .den = 1048575 ∧
      s' = { s with dp := s'.dp } ∧ ∀ r, r ∉ [Reg.d, .pllf, .mult, .rem, .num, .den] → s'.x r = s.x r

/-- R70, R80, R85, R90, for every state: PLAN, ENC_PLL, ENC_MS and PACK8 answer a next state in which only the registers
each one writes may differ: no flag, no bus traffic, no device register, no position. That PLAN with x[TF] = 0 or
REF_FREQ = 0 and ENC_PLL with x[DEN] = 0 complete too, each with a free value, is the model's choice (log entry 14). -/
def Obligations.ComputingOperationsFrame : Prop :=
  ∀ s : State,
    (∃ s', exec .plan s = .next s' ∧ s' = { s with dp := s'.dp } ∧
      ∀ r, r ∉ [Reg.d, .pllf, .mult, .rem, .num, .den] → s'.x r = s.x r) ∧
    (∃ s', exec .encPll s = .next s' ∧ s' = { s with dp := s'.dp } ∧
      ∀ r, r ∉ [Reg.p1, .p2, .p3] → s'.x r = s.x r) ∧
    (∃ s', exec .encMs s = .next s' ∧ s' = { s with dp := s'.dp } ∧
      ∀ r, r ∉ [Reg.p1, .p2, .p3] → s'.x r = s.x r) ∧
    (∃ s', exec .pack8 s = .next s' ∧ s' = { s with buf := s'.buf })

/-- R71: the divider. -/
def Obligations.DividerIsEvenAndTight : Prop :=
  ∀ t : Nat, 1 ≤ t →
    planDivider t % 2 = 0 ∧ planDivider t * t ≤ 900000000 ∧ 900000000 < (planDivider t + 2) * t ∧
    (planDivider t = 0 ↔ 450000000 < t)

/-- R72, R151: the quotient leaves 8 bits exactly when pll_freq is at least 256 times the reference, which needs a
reference of at most 3 515 625. -/
def Obligations.MultiplierOverflowsOnlyBelowAReference : Prop :=
  ∀ t ref : Nat, 1 ≤ t → 1 ≤ ref →
    (255 < planPll t / ref ↔ 256 * ref ≤ planPll t) ∧ (255 < planPll t / ref → ref ≤ 3515625)

/-- R73: with the default arithmetic of num (`numExact`: the spec's decision D5, log entry 10) num stays below the
denominator and is zero exactly when the product is below the reference. Of the model's other choice of that arithmetic
(U4) nothing is said: there num may reach the denominator. -/
def Obligations.NumStaysBelowTheDenominator : Prop :=
  ∀ rem ref : Nat, rem < ref →
    numExact rem ref ≤ 1048574 ∧ (numExact rem ref = 0 ↔ rem * 1048575 < ref)

/-- R76's last sentence: with 3 515 626 <= ref <= 112 500 000 every t in 438 597 .. 225 000 000 is exact. -/
def Obligations.ExactDomainForUsualReferences : Prop :=
  ∀ t ref : Nat, 438597 ≤ t → t ≤ 225000000 → 3515626 ≤ ref → ref ≤ 112500000 →
    exactDomain t ref ∧ 4 ≤ planDivider t ∧ planDivider t ≤ 2050

/-! ## The encoders -/

/-- The PLL triple, for every nonzero denominator, with the default mapping. PRESUMED: the formula is the vendor's, from
general knowledge (log entry 11; wrap, log entry 13). -/
def Obligations.EncPllResult : Prop :=
  ∀ s : State, s.dp.den ≠ 0 → s.params.encPll = .byRule →
    ∃ s', exec .encPll s = .next s' ∧
      s'.x .p1 = (128 * s.x .mult + 128 * s.x .num / s.x .den + (2 ^ 32 - 512)) % 2 ^ 32 ∧
      s'.x .p2 = 128 * s.x .num % s.x .den ∧
      s'.x .p3 = s.x .den

/-- Inside the exact domain the PLL triple encodes the multiplier exactly: 128 * (mult + num / den) = P1 + 512 + P2 / P3,
and P1 fits 18 bits, P2 and P3 fit 20. PRESUMED with the formula (log entry 11). -/
def Obligations.PllTripleIsExactInTheDomain : Prop :=
  ∀ (mult : Byte) (num : Word32), 4 ≤ mult.toNat → num.toNat ≤ 1048574 →
    let tr := encPllByRule mult num 1048575
    tr.p1.toNat ≤ 32255 ∧ tr.p2.toNat ≤ 1048574 ∧ tr.p3.toNat = 1048575 ∧
    128 * (mult.toNat * tr.p3.toNat + num.toNat) = (tr.p1.toNat + 512) * tr.p3.toNat + tr.p2.toNat

/-- The multisynth triple with the default mapping. PRESUMED: the formula is the vendor's, from general knowledge (log
entry 12; wrap, log entry 13). -/
def Obligations.EncMsResult : Prop :=
  ∀ s : State, s.params.encMs = .byRule →
    ∃ s', exec .encMs s = .next s' ∧
      s'.x .p1 = (128 * s.x .d + (2 ^ 32 - 512)) % 2 ^ 32 ∧ s'.x .p2 = 0 ∧ s'.x .p3 = 1

/-- R86: for every even d in 4 .. 2050 the MS0 block is 00 01 hh mm 00 00 00 00 with hh:mm = (d - 4) / 2. PRESUMED with
the formula (log entry 12). -/
def Obligations.MultisynthBlockInTheDomain : Prop :=
  ∀ d : Nat, d % 2 = 0 → 4 ≤ d → d ≤ 2050 →
    let tr := encMsByRule (BitVec.ofNat 32 d)
    packBytes tr.p1 tr.p2 tr.p3 0 =
      ⟨0x00, 0x01, BitVec.ofNat 8 ((d - 4) / 2 / 256), BitVec.ofNat 8 ((d - 4) / 2 % 256), 0x00, 0x00, 0x00, 0x00⟩

/-! ## Packing and writing -/

/-- R54, R90: PACK8's eight bytes as numbers; nothing but B is written. -/
def Obligations.Pack8Result : Prop :=
  ∀ s : State, ∃ b : Buffer, exec .pack8 s = .next { s with buf := b } ∧
    b.b0.toNat = s.x .p3 / 2 ^ 8 % 2 ^ 8 ∧
    b.b1.toNat = s.x .p3 % 2 ^ 8 ∧
    b.b2.toNat = s.x .extra ||| (s.x .p1 / 2 ^ 16 % 2 ^ 2) ∧
    b.b3.toNat = s.x .p1 / 2 ^ 8 % 2 ^ 8 ∧
    b.b4.toNat = s.x .p1 % 2 ^ 8 ∧
    b.b5.toNat = 16 * (s.x .p3 / 2 ^ 16 % 2 ^ 4) + s.x .p2 / 2 ^ 16 % 2 ^ 4 ∧
    b.b6.toNat = s.x .p2 / 2 ^ 8 % 2 ^ 8 ∧
    b.b7.toNat = s.x .p2 % 2 ^ 8

/-- R60, with the layout of 90_conflicts.md C1 and C2: UNPACK8 gives back P1 < 2^18, P2 < 2^20, P3 < 2^20 and EXTRA with
EXTRA[1:0] = 0, every eight bytes are the packing of what UNPACK8 reads from them, and the bits of P1 from 18 and of P2
and P3 from 20 on are in no byte. -/
def Obligations.UnpackInvertsPack : Prop :=
  (∀ (p1 p2 p3 : Word32) (e : Byte), p1.toNat < 2 ^ 18 → p2.toNat < 2 ^ 20 → p3.toNat < 2 ^ 20 → e.toNat % 4 = 0 →
    unpack8 (packBytes p1 p2 p3 e) = (⟨p1, p2, p3⟩, e)) ∧
  (∀ b : Buffer, packBytes (unpack8 b).1.p1 (unpack8 b).1.p2 (unpack8 b).1.p3 (unpack8 b).2 = b) ∧
  (∀ (p1 p2 p3 : Word32) (e : Byte),
    packBytes (p1 &&& 0x3FFFF) (p2 &&& 0xFFFFF) (p3 &&& 0xFFFFF) e = packBytes p1 p2 p3 e)

/-- R19, R31, R37, R56, R57, R58: the Register Map and the fixed bytes. -/
def Obligations.RegisterMapAndFixedBytes : Prop :=
  pllBase .a = 26 ∧ pllBase .b = 34 ∧ blockBase .ms0 = 42 ∧ blockBase .ms1 = 50 ∧ blockBase .ms2 = 58 ∧
  clkCtrl .clk0 = 16 ∧ clkCtrl .clk1 = 17 ∧ clkCtrl .clk2 = 18 ∧ pllResetReg = 177 ∧
  pllResetValue .a = 0x20 ∧ pllResetValue .b = 0x80 ∧ clkControlValue = 0x4F ∧
  resolveDevAddr false = 0x60 ∧ resolveDevAddr true = 0x61

/-- R91: WRITE_REG is one two-byte bus write, for every register address and value. What the register holds while the
write is not answered is the model's choice (log entry 36). -/
def Obligations.WriteRegIsOneBusWrite : Prop :=
  ∀ reg val : Byte, IsBusWrite (.writeReg reg val) reg val

/-- R93: RESET_PLL writes 0x20 for PLL A and 0x80 for PLL B to register 177. What the register holds while the write is
not answered is the model's choice (log entry 36). -/
def Obligations.ResetPllWritesTheFixedPattern : Prop :=
  IsBusWrite (.resetPll .a) 177 0x20 ∧ IsBusWrite (.resetPll .b) 177 0x80

/-- R94: ENABLE_CLOCK writes 0x4F to the output's control register. What the register holds while the write is not
answered is the model's choice (log entry 36). -/
def Obligations.EnableClockWritesTheFixedByte : Prop :=
  IsBusWrite (.enableClock .clk0) 16 0x4F ∧ IsBusWrite (.enableClock .clk1) 17 0x4F ∧
  IsBusWrite (.enableClock .clk2) 18 0x4F

/-- R92: ENCODE_AND_WRITE with all eight writes answered `Ok`. That it is one step is the model's choice (log entry 19). -/
def Obligations.EncodeAndWriteCompletes : Prop :=
  ∀ (s : State) (blk : BlockId) (extra : Byte) (rest : List BusRsp), s.rsps = oks 8 ++ rest →
    let b := packBytes s.dp.p1 s.dp.p2 s.dp.p3 extra
    let ws := blockWrites (blockBase blk) b
    ∃ s', exec (.encodeAndWrite blk extra) s = .next s' ∧
      s'.trace = s.trace ++ ws.map (okEvent s.cfg.devAddr) ∧
      s'.buf = b ∧ s'.dp = { s.dp with base := blockBase blk, extra := extra, off := 8 } ∧
      s'.widx = s.widx + 8 ∧ s'.busReq = none ∧ s'.inBlock = false ∧ s'.rsps = rest ∧
      s'.seq = s.seq ∧ s'.flags = s.flags ∧ s.sameOutside s' ∧
      s'.holds s.cfg.devAddr ws ∧ s.devSameExcept s' s.cfg.devAddr (ws.map Prod.fst)

/-- R92, R121: ENCODE_AND_WRITE whose write at offset `k` is the first to fail has issued exactly `k` + 1 writes.
That it is one step is the model's choice (log entry 19). -/
def Obligations.EncodeAndWriteAbortsAtTheFirstFailure : Prop :=
  ∀ (s : State) (blk : BlockId) (extra : Byte) (k : Nat) (e : ErrT) (rest : List BusRsp), k < 8 →
    s.rsps = oks k ++ .answered (.err e) :: rest →
    let b := packBytes s.dp.p1 s.dp.p2 s.dp.p3 extra
    let ws := blockWrites (blockBase blk) b
    ∃ s', exec (.encodeAndWrite blk extra) s = .next s' ∧
      s'.trace = s.trace ++ (ws.take k).map (okEvent s.cfg.devAddr) ++
        ((ws.drop k).take 1).map (errEvent s.cfg.devAddr e) ∧
      s'.buf = b ∧ s'.dp = { s.dp with base := blockBase blk, extra := extra, off := BitVec.ofNat 4 k } ∧
      s'.widx = s.widx + BitVec.ofNat 5 k ∧ s'.busReq = none ∧ s'.inBlock = false ∧ s'.rsps = rest ∧
      s'.seq = .failed ∧ s'.flags = ⟨false, false, true, .transportError, some e⟩ ∧ s.sameOutside s' ∧
      s'.holds s.cfg.devAddr (ws.take k) ∧ s.devSameExcept s' s.cfg.devAddr ((ws.take (k + 1)).map Prod.fst)

/-- R91, R92: ENCODE_AND_WRITE whose write at offset `k` is not answered yet (the response port is silent at that look, or
shows nothing any more) waits inside its loop: the request for register base + `k` is held, x[OFF] = `k`, and the first
`k` writes are in the trace and in the device. The one look, the one step, and that the register of the outstanding write
keeps the value known of it, are the model's choice (log entries 3, 19 and 36). -/
def Obligations.EncodeAndWriteWaitsAtAnUnansweredWrite : Prop :=
  ∀ (s : State) (blk : BlockId) (extra : Byte) (k : Nat) (later : List BusRsp), k < 8 → s.rsps = oks k ++ later →
    later = [] ∨ later.head? = some .silent →
    let b := packBytes s.dp.p1 s.dp.p2 s.dp.p3 extra
    let ws := blockWrites (blockBase blk) b
    ∃ s', exec (.encodeAndWrite blk extra) s = .next s' ∧
      s'.busReq = (ws[k]?).map (fun w => busWord w.1 w.2) ∧
      s'.trace = s.trace ++ (ws.take k).map (okEvent s.cfg.devAddr) ∧
      s'.buf = b ∧ s'.dp = { s.dp with base := blockBase blk, extra := extra, off := BitVec.ofNat 4 k } ∧
      s'.widx = s.widx + BitVec.ofNat 5 k ∧ s'.inBlock = true ∧ s'.rsps = later.tail ∧
      s'.seq = s.seq ∧ s'.flags = s.flags ∧ s.sameOutside s' ∧
      s'.holds s.cfg.devAddr (ws.take k) ∧ s.devSameExcept s' s.cfg.devAddr ((ws.take k).map Prod.fst)

/-- R91, R92, R121: what becomes of a lone ENCODE_AND_WRITE that waits at offset `k`, in a step without reset. Its bytes are
those B already holds. If the rest of its writes are answered `Ok` it ends; if `j` of them are and the next is answered
with an error it ends in Failed; if `j` of them are and the next is not answered yet it waits at offset `k` + `j`. That it
goes on in one step, and what the register of a write not answered yet holds, are the model's choice (log entries 3, 17,
19 and 36). -/
def Obligations.WaitingBlockGoesOn : Prop :=
  ∀ (s : State) (blk : BlockId) (k : Nat), k < 8 →
    let ws := blockWrites (blockBase blk) s.buf
    s.rst = [] → s.flags.busy = false → s.inBlock = true →
    s.dp.base = blockBase blk → s.dp.off = BitVec.ofNat 4 k →
    s.busReq = (ws[k]?).map (fun w => busWord w.1 w.2) →
    (∀ rest, s.rsps = oks (8 - k) ++ rest →
      ∃ s', step s = .next s' ∧
        s'.trace = s.trace ++ (ws.drop k).map (okEvent s.cfg.devAddr) ∧
        s'.buf = s.buf ∧ s'.dp = { s.dp with off := 8 } ∧ s'.widx = s.widx + BitVec.ofNat 5 (8 - k) ∧
        s'.busReq = none ∧ s'.inBlock = false ∧ s'.rsps = rest ∧
        s'.seq = s.seq ∧ s'.flags = s.flags ∧ s.sameOutside s' ∧
        s'.holds s.cfg.devAddr (ws.drop k) ∧ s.devSameExcept s' s.cfg.devAddr ((ws.drop k).map Prod.fst)) ∧
    (∀ (j : Nat) (e : ErrT) (rest : List BusRsp), k + j < 8 → s.rsps = oks j ++ .answered (.err e) :: rest →
      ∃ s', step s = .next s' ∧
        s'.trace = s.trace ++ ((ws.drop k).take j).map (okEvent s.cfg.devAddr) ++
          ((ws.drop (k + j)).take 1).map (errEvent s.cfg.devAddr e) ∧
        s'.buf = s.buf ∧ s'.dp = { s.dp with off := BitVec.ofNat 4 (k + j) } ∧
        s'.widx = s.widx + BitVec.ofNat 5 j ∧ s'.busReq = none ∧ s'.inBlock = false ∧ s'.rsps = rest ∧
        s'.seq = .failed ∧ s'.flags = ⟨false, false, true, .transportError, some e⟩ ∧ s.sameOutside s' ∧
        s'.holds s.cfg.devAddr ((ws.drop k).take j) ∧
        s.devSameExcept s' s.cfg.devAddr (((ws.drop k).take (j + 1)).map Prod.fst)) ∧
    (∀ (j : Nat) (later : List BusRsp), k + j < 8 → s.rsps = oks j ++ later →
      later = [] ∨ later.head? = some .silent →
      ∃ s', step s = .next s' ∧
        s'.busReq = (ws[k + j]?).map (fun w => busWord w.1 w.2) ∧
        s'.trace = s.trace ++ ((ws.drop k).take j).map (okEvent s.cfg.devAddr) ∧
        s'.buf = s.buf ∧ s'.dp = { s.dp with off := BitVec.ofNat 4 (k + j) } ∧
        s'.widx = s.widx + BitVec.ofNat 5 j ∧ s'.inBlock = true ∧ s'.rsps = later.tail ∧
        s'.seq = s.seq ∧ s'.flags = s.flags ∧ s.sameOutside s' ∧
        s'.holds s.cfg.devAddr ((ws.drop k).take j) ∧
        s.devSameExcept s' s.cfg.devAddr (((ws.drop k).take j).map Prod.fst))

/-- R58, R64, R91: WR.PLLA.0 to WR.PLLA.7 are the bus writes of the PLL A block, registers 26 to 33. What a
register holds while its write is not answered is the model's choice (log entry 36). -/
def Obligations.PllABlockWrites : Prop :=
  ∀ v : Byte,
    IsBusWrite (.wrPlla_0 v) 26 v ∧
    IsBusWrite (.wrPlla_1 v) 27 v ∧
    IsBusWrite (.wrPlla_2 v) 28 v ∧
    IsBusWrite (.wrPlla_3 v) 29 v ∧
    IsBusWrite (.wrPlla_4 v) 30 v ∧
    IsBusWrite (.wrPlla_5 v) 31 v ∧
    IsBusWrite (.wrPlla_6 v) 32 v ∧
    IsBusWrite (.wrPlla_7 v) 33 v

/-- R58, R64, R91: WR.PLLB.0 to WR.PLLB.7 are the bus writes of the PLL B block, registers 34 to 41. What a
register holds while its write is not answered is the model's choice (log entry 36). -/
def Obligations.PllBBlockWrites : Prop :=
  ∀ v : Byte,
    IsBusWrite (.wrPllb_0 v) 34 v ∧
    IsBusWrite (.wrPllb_1 v) 35 v ∧
    IsBusWrite (.wrPllb_2 v) 36 v ∧
    IsBusWrite (.wrPllb_3 v) 37 v ∧
    IsBusWrite (.wrPllb_4 v) 38 v ∧
    IsBusWrite (.wrPllb_5 v) 39 v ∧
    IsBusWrite (.wrPllb_6 v) 40 v ∧
    IsBusWrite (.wrPllb_7 v) 41 v

/-- R58, R64, R91: WR.MS0.0 to WR.MS0.7 are the bus writes of the MS0 block, registers 42 to 49. What a
register holds while its write is not answered is the model's choice (log entry 36). -/
def Obligations.Ms0BlockWrites : Prop :=
  ∀ v : Byte,
    IsBusWrite (.wrMs0_0 v) 42 v ∧
    IsBusWrite (.wrMs0_1 v) 43 v ∧
    IsBusWrite (.wrMs0_2 v) 44 v ∧
    IsBusWrite (.wrMs0_3 v) 45 v ∧
    IsBusWrite (.wrMs0_4 v) 46 v ∧
    IsBusWrite (.wrMs0_5 v) 47 v ∧
    IsBusWrite (.wrMs0_6 v) 48 v ∧
    IsBusWrite (.wrMs0_7 v) 49 v

/-- R58, R64, R91: WR.MS1.0 to WR.MS1.7 are the bus writes of the MS1 block, registers 50 to 57. What a
register holds while its write is not answered is the model's choice (log entry 36). -/
def Obligations.Ms1BlockWrites : Prop :=
  ∀ v : Byte,
    IsBusWrite (.wrMs1_0 v) 50 v ∧
    IsBusWrite (.wrMs1_1 v) 51 v ∧
    IsBusWrite (.wrMs1_2 v) 52 v ∧
    IsBusWrite (.wrMs1_3 v) 53 v ∧
    IsBusWrite (.wrMs1_4 v) 54 v ∧
    IsBusWrite (.wrMs1_5 v) 55 v ∧
    IsBusWrite (.wrMs1_6 v) 56 v ∧
    IsBusWrite (.wrMs1_7 v) 57 v

/-- R58, R64, R91: WR.MS2.0 to WR.MS2.7 are the bus writes of the MS2 block, registers 58 to 65. What a
register holds while its write is not answered is the model's choice (log entry 36). -/
def Obligations.Ms2BlockWrites : Prop :=
  ∀ v : Byte,
    IsBusWrite (.wrMs2_0 v) 58 v ∧
    IsBusWrite (.wrMs2_1 v) 59 v ∧
    IsBusWrite (.wrMs2_2 v) 60 v ∧
    IsBusWrite (.wrMs2_3 v) 61 v ∧
    IsBusWrite (.wrMs2_4 v) 62 v ∧
    IsBusWrite (.wrMs2_5 v) 63 v ∧
    IsBusWrite (.wrMs2_6 v) 64 v ∧
    IsBusWrite (.wrMs2_7 v) 65 v

/-- R56, R57, R58, R64: WR.PLLRST.A, WR.PLLRST.B and WR.CLK0.EN to WR.CLK2.EN are the five fixed-value bus writes. What
a register holds while its write is not answered is the model's choice (log entry 36). -/
def Obligations.FixedValueBusWrites : Prop :=
  IsBusWrite .wrPllrstA 177 0x20 ∧
  IsBusWrite .wrPllrstB 177 0x80 ∧
  IsBusWrite .wrClk0En 16 0x4F ∧
  IsBusWrite .wrClk1En 17 0x4F ∧
  IsBusWrite .wrClk2En 18 0x4F

/-! ## The whole machine -/

/-- R23, R140: what the spec says reset leaves; the model's zeros for "no value" are not stated. -/
def Obligations.ResetLeavesTheSpecValues : Prop :=
  State.reset.cfg.constructed = false ∧ State.reset.seq = .idle ∧ State.reset.widx = 0 ∧
  State.reset.flags = ⟨false, false, false, .none, none⟩ ∧ State.reset.busReq = none ∧ State.reset.trace = [] ∧
  State.reset.outputs.cmdReady = true ∧ State.reset.outputs.busReqValid = false ∧
  State.reset.outputs.seqState = 0 ∧ State.reset.outputs.status = 0

/-- R16, R17: the codes of SEQ_STATE and STATUS. -/
def Obligations.CodesOfSeqStateAndStatus : Prop :=
  SeqState.idle.code = 0 ∧ SeqState.computedParameters.code = 1 ∧ SeqState.pllProgrammed.code = 2 ∧
  SeqState.multisynthProgrammed.code = 3 ∧ SeqState.pllReset.code = 4 ∧ SeqState.clockEnabled.code = 5 ∧
  SeqState.failed.code = 6 ∧
  Status.none.code = 0 ∧ Status.ok.code = 1 ∧ Status.transportError.code = 2 ∧ Status.domain.code = 3 ∧
  Status.notReady.code = 4 ∧ Status.illegal.code = 5

/-- The state after reset meets the invariants. -/
def Obligations.ResetMeetsTheInvariant : Prop :=
  State.reset.Inv ∧ State.reset.traceLegal ∧ State.reset.loopLegal

/-- R11, R16, R17, R39, R102, R103, R121 as one invariant of the machine driven from its host port: every step keeps
it. -/
def Obligations.StepKeepsTheInvariant : Prop :=
  ∀ s s' : State, s.Inv → s.traceLegal → step s = .next s' → s'.Inv ∧ s'.traceLegal

/-- R39, R91, R92: inside the loop of an ENCODE_AND_WRITE the outstanding write is the loop's own, the one at x[OFF]. Every
step keeps this, also one that runs a lone operation or reset: no other write takes the place of a block's write. -/
def Obligations.BlockLoopWaitsOnItsOwnWrite : Prop :=
  ∀ s s' : State, s.loopLegal → step s = .next s' → s'.loopLegal

/-- R12: no operation but CONSTRUCT writes the configuration, a CONSTRUCT of a constructed block does not either, and no
step without reset changes the configuration of a constructed block. -/
def Obligations.ConfigurationNeverChangesAfterConstruction : Prop :=
  (∀ (i : Instr) (s s' : State), (∀ a ref, i ≠ .construct a ref) → exec i s = .next s' → s'.cfg = s.cfg) ∧
  (∀ (a : Bool) (ref : Word32) (s s' : State), s.cfg.constructed = true → exec (.construct a ref) s = .next s' →
    s'.cfg = s.cfg) ∧
  (∀ s s' : State, s.cfg.constructed = true → s.rst.head? ≠ some true → step s = .next s' → s'.cfg = s.cfg)

/-- R44: no step takes an entry out of the trace. That the trace is a list that only grows is the model's choice (log entry
33), and so is that it survives a reset (log entry 5). -/
def Obligations.TraceOnlyGrows : Prop :=
  ∀ s s' : State, step s = .next s' → ∃ new, s'.trace = s.trace ++ new

/-- R44: every step without reset keeps the device registers at the last value the transport answered `Ok` for; of a
register whose last write failed nothing is said. That this holds while a later write to the register is outstanding is
the model's choice (log entry 36). -/
def Obligations.DeviceHoldsTheLastAnsweredValue : Prop :=
  ∀ s s' : State, s.deviceAgrees → s.rst.head? ≠ some true → step s = .next s' → s'.deviceAgrees

/-- R59, R25, D23: every write a host-driven step issues goes to a register SET_FREQUENCY writes, carries a value R59
allows there, and is addressed to the configured device. -/
def Obligations.EveryIssuedWriteIsEmittable : Prop :=
  ∀ s s' : State, s.Inv → step s = .next s' →
    ∃ new, s'.trace = s.trace ++ new ∧
      ∀ ev, ev ∈ new → ev.a7 = s.cfg.devAddr ∧ hostReachable ev.reg = true ∧ emittable ev.reg ev.val = true

/-- R121, D24: the block never inspects the transport's error value: renaming every error value renames the outcome and
changes nothing else. -/
def Obligations.ErrorValuesAreNeverInspected : Prop :=
  ∀ (f : ErrT → ErrT) (s : State), step (s.mapErr f) = mapErrOutcome f (step s)

/-- Every step of the machine driven from its host port is a next state: nothing stops the block. -/
def Obligations.HostDrivenMachineNeverStops : Prop :=
  ∀ s : State, s.uop = none → ∃ s', step s = .next s'
end

