-- ==== Sys2Proof/Laws/Decode.lean ====
section
/-! SUPPORT. The fields of the three word formats read back from the words the encoder lays out. -/

namespace Sys2Proof

theorem hostWord_toNat (op : BitVec 4) (a : Bool) (f : Word32) :
    (hostWord op a f).toNat = op.toNat * 2 ^ 33 + a.toNat * 2 ^ 32 + f.toNat := by
  have hf := f.isLt
  have ha : a.toNat < 2 := by cases a <;> decide
  change (BitVec.append (BitVec.append op (BitVec.ofBool a)) f).toNat = _
  rw [show BitVec.append (BitVec.append op (BitVec.ofBool a)) f = op ++ BitVec.ofBool a ++ f from rfl,
    BitVec.toNat_append, BitVec.toNat_append, BitVec.toNat_ofBool]
  rw [← Nat.shiftLeft_add_eq_or_of_lt (by omega), ← Nat.shiftLeft_add_eq_or_of_lt (by omega), Nat.shiftLeft_eq,
    Nat.shiftLeft_eq]
  omega

theorem uopWord_toNat (a b : Byte) (c : BitVec 4) :
    (uopWord a b c).toNat = a.toNat * 2 ^ 16 + b.toNat * 2 ^ 8 + c.toNat := by
  have hb := b.isLt
  have hc := c.isLt
  change (BitVec.append (BitVec.append (BitVec.append a b) 0#4) c).toNat = _
  rw [show BitVec.append (BitVec.append (BitVec.append a b) 0#4) c = a ++ b ++ 0#4 ++ c from rfl,
    BitVec.toNat_append, BitVec.toNat_append, BitVec.toNat_append]
  rw [← Nat.shiftLeft_add_eq_or_of_lt (by omega), ← Nat.shiftLeft_add_eq_or_of_lt (by simp),
    ← Nat.shiftLeft_add_eq_or_of_lt (by omega), Nat.shiftLeft_eq, Nat.shiftLeft_eq, Nat.shiftLeft_eq]
  simp
  omega

theorem busWord_toNat (reg val : Byte) : (busWord reg val).toNat = reg.toNat * 2 ^ 8 + val.toNat := by
  have hv := val.isLt
  change (BitVec.append reg val).toNat = _
  rw [show BitVec.append reg val = reg ++ val from rfl, BitVec.toNat_append,
    ← Nat.shiftLeft_add_eq_or_of_lt (by omega), Nat.shiftLeft_eq]

@[simp] theorem hostWord_op (op : BitVec 4) (a : Bool) (f : Word32) : (hostWord op a f).extractLsb' 33 4 = op := by
  have h1 := op.isLt
  have h2 := f.isLt
  have ha : a.toNat < 2 := by cases a <;> decide
  apply BitVec.eq_of_toNat_eq
  rw [BitVec.extractLsb'_toNat, hostWord_toNat, Nat.shiftRight_eq_div_pow]
  omega

@[simp] theorem hostWord_f (op : BitVec 4) (a : Bool) (f : Word32) : (hostWord op a f).extractLsb' 0 32 = f := by
  have h2 := f.isLt
  apply BitVec.eq_of_toNat_eq
  rw [BitVec.extractLsb'_toNat, hostWord_toNat, Nat.shiftRight_eq_div_pow]
  omega

@[simp] theorem hostWord_addrSel (op : BitVec 4) (a : Bool) (f : Word32) : (hostWord op a f).getLsbD 32 = a := by
  have h2 := f.isLt
  rw [BitVec.getLsbD, hostWord_toNat, Nat.testBit, Nat.shiftRight_eq_div_pow]
  have : (op.toNat * 2 ^ 33 + a.toNat * 2 ^ 32 + f.toNat) / 2 ^ 32 = 2 * op.toNat + a.toNat := by omega
  rw [this]
  cases a <;> simp [Nat.add_mod]

@[simp] theorem uopWord_code (a b : Byte) (c : BitVec 4) : (uopWord a b c).extractLsb' 0 4 = c := by
  have hc := c.isLt
  apply BitVec.eq_of_toNat_eq
  rw [BitVec.extractLsb'_toNat, uopWord_toNat, Nat.shiftRight_eq_div_pow]
  omega

@[simp] theorem uopWord_pad (a b : Byte) (c : BitVec 4) : (uopWord a b c).extractLsb' 4 4 = 0#4 := by
  have hc := c.isLt
  apply BitVec.eq_of_toNat_eq
  rw [BitVec.extractLsb'_toNat, uopWord_toNat, Nat.shiftRight_eq_div_pow]
  simp
  omega

@[simp] theorem uopWord_second (a b : Byte) (c : BitVec 4) : (uopWord a b c).extractLsb' 8 8 = b := by
  have hb := b.isLt
  have hc := c.isLt
  apply BitVec.eq_of_toNat_eq
  rw [BitVec.extractLsb'_toNat, uopWord_toNat, Nat.shiftRight_eq_div_pow]
  omega

@[simp] theorem uopWord_first (a b : Byte) (c : BitVec 4) : (uopWord a b c).extractLsb' 16 8 = a := by
  have ha := a.isLt
  have hb := b.isLt
  have hc := c.isLt
  apply BitVec.eq_of_toNat_eq
  rw [BitVec.extractLsb'_toNat, uopWord_toNat, Nat.shiftRight_eq_div_pow]
  omega

@[simp] theorem busWord_reg (reg val : Byte) : (busWord reg val).extractLsb' 8 8 = reg := by
  have hr := reg.isLt
  have hv := val.isLt
  apply BitVec.eq_of_toNat_eq
  rw [BitVec.extractLsb'_toNat, busWord_toNat, Nat.shiftRight_eq_div_pow]
  omega

@[simp] theorem busWord_val (reg val : Byte) : (busWord reg val).extractLsb' 0 8 = val := by
  have hv := val.isLt
  apply BitVec.eq_of_toNat_eq
  rw [BitVec.extractLsb'_toNat, busWord_toNat, Nat.shiftRight_eq_div_pow]
  omega

/-- A payload is its two bytes. -/
theorem busWord_eta (w : BusWord) : busWord (w.extractLsb' 8 8) (w.extractLsb' 0 8) = w := by
  have hw := w.isLt
  apply BitVec.eq_of_toNat_eq
  rw [busWord_toNat, BitVec.extractLsb'_toNat, BitVec.extractLsb'_toNat, Nat.shiftRight_eq_div_pow,
    Nat.shiftRight_eq_div_pow]
  omega

/-- What the decoder reads from a payload depends on its two bytes only. -/
theorem decodeBus_of_fields {reg val : Byte} {i : Instr}
    (h : ∀ w : BusWord, w.extractLsb' 8 8 = reg → w.extractLsb' 0 8 = val → decodeBus w = .ok i) :
    decodeBus (busWord reg val) = .ok i :=
  h _ (busWord_reg reg val) (busWord_val reg val)

/-- A command word is its three fields. -/
theorem hostWord_eta (w : CmdWord) :
    hostWord (w.extractLsb' 33 4) (w.getLsbD 32) (w.extractLsb' 0 32) = w := by
  have hw := w.isLt
  have hb : (w.getLsbD 32).toNat = w.toNat / 2 ^ 32 % 2 := by
    rw [BitVec.getLsbD, Nat.testBit, Nat.shiftRight_eq_div_pow]
    rcases Nat.mod_two_eq_zero_or_one (w.toNat / 2 ^ 32) with h | h <;>
      simp only [Nat.reducePow] at h ⊢ <;> simp [h]
  apply BitVec.eq_of_toNat_eq
  rw [hostWord_toNat, hb, BitVec.extractLsb'_toNat, BitVec.extractLsb'_toNat, Nat.shiftRight_eq_div_pow,
    Nat.shiftRight_eq_div_pow]
  omega

/-- The bits of a number that a mask of `n` ones shifted up by `k` keeps. -/
theorem and_mask_shifted (x k n : Nat) : x &&& (2 ^ k * (2 ^ n - 1)) = 2 ^ k * (x / 2 ^ k % 2 ^ n) := by
  apply Nat.eq_of_testBit_eq
  intro i
  rw [Nat.testBit_and, Nat.testBit_two_pow_mul, Nat.testBit_two_pow_mul, Nat.testBit_two_pow_sub_one,
    Nat.testBit_mod_two_pow, Nat.testBit_div_two_pow]
  by_cases hk : k ≤ i
  · simp only [hk, decide_true, Bool.true_and, show i - k + k = i by omega]
    exact Bool.and_comm _ _
  · simp [hk]

/-- The register byte of a payload is what the opcode table fixes of a block write. -/
theorem busWord_and_reg (reg val : Byte) : (busWord reg val).toNat &&& 0xFF00 = reg.toNat * 256 := by
  have hr := reg.isLt
  have hv := val.isLt
  rw [show (0xFF00 : Nat) = 2 ^ 8 * (2 ^ 8 - 1) by decide, and_mask_shifted, busWord_toNat]
  omega

/-- The operation code of an internal operation line is what the opcode table fixes. -/
theorem uopWord_and_code (a b : Byte) (c : BitVec 4) : (uopWord a b c).toNat &&& 0xF = c.toNat := by
  have hc := c.isLt
  rw [show (0xF : Nat) = 2 ^ 0 * (2 ^ 4 - 1) by decide, and_mask_shifted, uopWord_toNat]
  omega

/-- The `op` field of a command word is what the opcode table fixes of CONSTRUCT. -/
theorem hostWord_and_op (op : BitVec 4) (a : Bool) (f : Word32) :
    (hostWord op a f).toNat &&& 0x1E00000000 = op.toNat * 2 ^ 33 := by
  have h1 := op.isLt
  have h2 := f.isLt
  have ha : a.toNat < 2 := by cases a <;> decide
  rw [show (0x1E00000000 : Nat) = 2 ^ 33 * (2 ^ 4 - 1) by decide, and_mask_shifted, hostWord_toNat]
  omega

/-- The `op` and `as` fields of a command word are what the opcode table fixes of SET_FREQUENCY. -/
theorem hostWord_and_op_as (op : BitVec 4) (a : Bool) (f : Word32) :
    (hostWord op a f).toNat &&& 0x1F00000000 = op.toNat * 2 ^ 33 + a.toNat * 2 ^ 32 := by
  have h1 := op.isLt
  have h2 := f.isLt
  have ha : a.toNat < 2 := by cases a <;> decide
  rw [show (0x1F00000000 : Nat) = 2 ^ 32 * (2 ^ 5 - 1) by decide, and_mask_shifted, hostWord_toNat]
  omega

end Sys2Proof
end

