-- ==== Sys2Proof/Laws/State.lean ====
section
/-! SUPPORT. One lemma per field per update of the state, each true by unfolding the update once, so that no later proof
unfolds a record update. -/

namespace Sys2Proof.Machine

open Sys2Proof.Config

@[simp] theorem raiseTransportError_cfg (e : ErrT) (s : State) : (raiseTransportError e s).cfg = s.cfg := rfl
@[simp] theorem raiseTransportError_dp (e : ErrT) (s : State) : (raiseTransportError e s).dp = s.dp := rfl
@[simp] theorem raiseTransportError_buf (e : ErrT) (s : State) : (raiseTransportError e s).buf = s.buf := rfl
@[simp] theorem raiseTransportError_seq (e : ErrT) (s : State) : (raiseTransportError e s).seq = .failed := rfl
@[simp] theorem raiseTransportError_widx (e : ErrT) (s : State) : (raiseTransportError e s).widx = s.widx := rfl
@[simp] theorem raiseTransportError_flags (e : ErrT) (s : State) : (raiseTransportError e s).flags = s.flags.transportFailed e := rfl
@[simp] theorem raiseTransportError_busReq (e : ErrT) (s : State) : (raiseTransportError e s).busReq = s.busReq := rfl
@[simp] theorem raiseTransportError_inBlock (e : ErrT) (s : State) : (raiseTransportError e s).inBlock = false := rfl
@[simp] theorem raiseTransportError_trace (e : ErrT) (s : State) : (raiseTransportError e s).trace = s.trace := rfl
@[simp] theorem raiseTransportError_dev (e : ErrT) (s : State) : (raiseTransportError e s).dev = s.dev := rfl
@[simp] theorem raiseTransportError_cmds (e : ErrT) (s : State) : (raiseTransportError e s).cmds = s.cmds := rfl
@[simp] theorem raiseTransportError_uop (e : ErrT) (s : State) : (raiseTransportError e s).uop = s.uop := rfl
@[simp] theorem raiseTransportError_rsps (e : ErrT) (s : State) : (raiseTransportError e s).rsps = s.rsps := rfl
@[simp] theorem raiseTransportError_rst (e : ErrT) (s : State) : (raiseTransportError e s).rst = s.rst := rfl
@[simp] theorem raiseTransportError_freeCount (e : ErrT) (s : State) : (raiseTransportError e s).freeCount = s.freeCount := rfl
@[simp] theorem raiseTransportError_params (e : ErrT) (s : State) : (raiseTransportError e s).params = s.params := rfl

@[simp] theorem loseWrite_cfg (reg : Byte) (s : State) : (loseWrite reg s).cfg = s.cfg := rfl
@[simp] theorem loseWrite_dp (reg : Byte) (s : State) : (loseWrite reg s).dp = s.dp := rfl
@[simp] theorem loseWrite_buf (reg : Byte) (s : State) : (loseWrite reg s).buf = s.buf := rfl
@[simp] theorem loseWrite_seq (reg : Byte) (s : State) : (loseWrite reg s).seq = s.seq := rfl
@[simp] theorem loseWrite_widx (reg : Byte) (s : State) : (loseWrite reg s).widx = s.widx := rfl
@[simp] theorem loseWrite_flags (reg : Byte) (s : State) : (loseWrite reg s).flags = s.flags := rfl
@[simp] theorem loseWrite_busReq (reg : Byte) (s : State) : (loseWrite reg s).busReq = s.busReq := rfl
@[simp] theorem loseWrite_inBlock (reg : Byte) (s : State) : (loseWrite reg s).inBlock = s.inBlock := rfl
@[simp] theorem loseWrite_trace (reg : Byte) (s : State) : (loseWrite reg s).trace = s.trace := rfl
@[simp] theorem loseWrite_dev (reg : Byte) (s : State) : (loseWrite reg s).dev = s.dev.write (deviceKey s.cfg.devAddr reg) (lostWriteByte s.freeCount) := rfl
@[simp] theorem loseWrite_cmds (reg : Byte) (s : State) : (loseWrite reg s).cmds = s.cmds := rfl
@[simp] theorem loseWrite_uop (reg : Byte) (s : State) : (loseWrite reg s).uop = s.uop := rfl
@[simp] theorem loseWrite_rsps (reg : Byte) (s : State) : (loseWrite reg s).rsps = s.rsps := rfl
@[simp] theorem loseWrite_rst (reg : Byte) (s : State) : (loseWrite reg s).rst = s.rst := rfl
@[simp] theorem loseWrite_freeCount (reg : Byte) (s : State) : (loseWrite reg s).freeCount = s.freeCount + 1 := rfl
@[simp] theorem loseWrite_params (reg : Byte) (s : State) : (loseWrite reg s).params = s.params := rfl

@[simp] theorem answerOk_cfg (reg val : Byte) (s : State) : (answerOk reg val s).cfg = s.cfg := rfl
@[simp] theorem answerOk_dp (reg val : Byte) (s : State) : (answerOk reg val s).dp = s.dp := rfl
@[simp] theorem answerOk_buf (reg val : Byte) (s : State) : (answerOk reg val s).buf = s.buf := rfl
@[simp] theorem answerOk_seq (reg val : Byte) (s : State) : (answerOk reg val s).seq = s.seq := rfl
@[simp] theorem answerOk_widx (reg val : Byte) (s : State) : (answerOk reg val s).widx = s.widx + 1 := rfl
@[simp] theorem answerOk_flags (reg val : Byte) (s : State) : (answerOk reg val s).flags = s.flags := rfl
@[simp] theorem answerOk_busReq (reg val : Byte) (s : State) : (answerOk reg val s).busReq = none := rfl
@[simp] theorem answerOk_inBlock (reg val : Byte) (s : State) : (answerOk reg val s).inBlock = s.inBlock := rfl
@[simp] theorem answerOk_trace (reg val : Byte) (s : State) : (answerOk reg val s).trace = s.trace ++ [⟨s.cfg.devAddr, reg, val, .ok⟩] := rfl
@[simp] theorem answerOk_dev (reg val : Byte) (s : State) : (answerOk reg val s).dev = s.dev.write (deviceKey s.cfg.devAddr reg) val := rfl
@[simp] theorem answerOk_cmds (reg val : Byte) (s : State) : (answerOk reg val s).cmds = s.cmds := rfl
@[simp] theorem answerOk_uop (reg val : Byte) (s : State) : (answerOk reg val s).uop = s.uop := rfl
@[simp] theorem answerOk_rsps (reg val : Byte) (s : State) : (answerOk reg val s).rsps = s.rsps := rfl
@[simp] theorem answerOk_rst (reg val : Byte) (s : State) : (answerOk reg val s).rst = s.rst := rfl
@[simp] theorem answerOk_freeCount (reg val : Byte) (s : State) : (answerOk reg val s).freeCount = s.freeCount := rfl
@[simp] theorem answerOk_params (reg val : Byte) (s : State) : (answerOk reg val s).params = s.params := rfl

@[simp] theorem answerErr_cfg (reg val : Byte) (e : ErrT) (s : State) : (answerErr reg val e s).cfg = s.cfg := rfl
@[simp] theorem answerErr_dp (reg val : Byte) (e : ErrT) (s : State) : (answerErr reg val e s).dp = s.dp := rfl
@[simp] theorem answerErr_buf (reg val : Byte) (e : ErrT) (s : State) : (answerErr reg val e s).buf = s.buf := rfl
@[simp] theorem answerErr_seq (reg val : Byte) (e : ErrT) (s : State) : (answerErr reg val e s).seq = .failed := rfl
@[simp] theorem answerErr_widx (reg val : Byte) (e : ErrT) (s : State) : (answerErr reg val e s).widx = s.widx := rfl
@[simp] theorem answerErr_flags (reg val : Byte) (e : ErrT) (s : State) : (answerErr reg val e s).flags = s.flags.transportFailed e := rfl
@[simp] theorem answerErr_busReq (reg val : Byte) (e : ErrT) (s : State) : (answerErr reg val e s).busReq = none := rfl
@[simp] theorem answerErr_inBlock (reg val : Byte) (e : ErrT) (s : State) : (answerErr reg val e s).inBlock = false := rfl
@[simp] theorem answerErr_trace (reg val : Byte) (e : ErrT) (s : State) : (answerErr reg val e s).trace = s.trace ++ [⟨s.cfg.devAddr, reg, val, .err e⟩] := rfl
@[simp] theorem answerErr_dev (reg val : Byte) (e : ErrT) (s : State) : (answerErr reg val e s).dev = s.dev.write (deviceKey s.cfg.devAddr reg) (lostWriteByte s.freeCount) := rfl
@[simp] theorem answerErr_cmds (reg val : Byte) (e : ErrT) (s : State) : (answerErr reg val e s).cmds = s.cmds := rfl
@[simp] theorem answerErr_uop (reg val : Byte) (e : ErrT) (s : State) : (answerErr reg val e s).uop = s.uop := rfl
@[simp] theorem answerErr_rsps (reg val : Byte) (e : ErrT) (s : State) : (answerErr reg val e s).rsps = s.rsps := rfl
@[simp] theorem answerErr_rst (reg val : Byte) (e : ErrT) (s : State) : (answerErr reg val e s).rst = s.rst := rfl
@[simp] theorem answerErr_freeCount (reg val : Byte) (e : ErrT) (s : State) : (answerErr reg val e s).freeCount = s.freeCount + 1 := rfl
@[simp] theorem answerErr_params (reg val : Byte) (e : ErrT) (s : State) : (answerErr reg val e s).params = s.params := rfl

@[simp] theorem holdRequest_cfg (reg val : Byte) (s : State) : (holdRequest reg val s).cfg = s.cfg := rfl
@[simp] theorem holdRequest_dp (reg val : Byte) (s : State) : (holdRequest reg val s).dp = s.dp := rfl
@[simp] theorem holdRequest_buf (reg val : Byte) (s : State) : (holdRequest reg val s).buf = s.buf := rfl
@[simp] theorem holdRequest_seq (reg val : Byte) (s : State) : (holdRequest reg val s).seq = s.seq := rfl
@[simp] theorem holdRequest_widx (reg val : Byte) (s : State) : (holdRequest reg val s).widx = s.widx := rfl
@[simp] theorem holdRequest_flags (reg val : Byte) (s : State) : (holdRequest reg val s).flags = s.flags := rfl
@[simp] theorem holdRequest_busReq (reg val : Byte) (s : State) : (holdRequest reg val s).busReq = some (busWord reg val) := rfl
@[simp] theorem holdRequest_inBlock (reg val : Byte) (s : State) : (holdRequest reg val s).inBlock = s.inBlock := rfl
@[simp] theorem holdRequest_trace (reg val : Byte) (s : State) : (holdRequest reg val s).trace = s.trace := rfl
@[simp] theorem holdRequest_dev (reg val : Byte) (s : State) : (holdRequest reg val s).dev = s.dev := rfl
@[simp] theorem holdRequest_cmds (reg val : Byte) (s : State) : (holdRequest reg val s).cmds = s.cmds := rfl
@[simp] theorem holdRequest_uop (reg val : Byte) (s : State) : (holdRequest reg val s).uop = s.uop := rfl
@[simp] theorem holdRequest_rsps (reg val : Byte) (s : State) : (holdRequest reg val s).rsps = s.rsps := rfl
@[simp] theorem holdRequest_rst (reg val : Byte) (s : State) : (holdRequest reg val s).rst = s.rst := rfl
@[simp] theorem holdRequest_freeCount (reg val : Byte) (s : State) : (holdRequest reg val s).freeCount = s.freeCount := rfl
@[simp] theorem holdRequest_params (reg val : Byte) (s : State) : (holdRequest reg val s).params = s.params := rfl

@[simp] theorem refuseCommand_cfg (code : Status) (s : State) : (refuseCommand code s).cfg = s.cfg := rfl
@[simp] theorem refuseCommand_dp (code : Status) (s : State) : (refuseCommand code s).dp = s.dp := rfl
@[simp] theorem refuseCommand_buf (code : Status) (s : State) : (refuseCommand code s).buf = s.buf := rfl
@[simp] theorem refuseCommand_seq (code : Status) (s : State) : (refuseCommand code s).seq = s.seq := rfl
@[simp] theorem refuseCommand_widx (code : Status) (s : State) : (refuseCommand code s).widx = s.widx := rfl
@[simp] theorem refuseCommand_flags (code : Status) (s : State) : (refuseCommand code s).flags = s.flags.refused code := rfl
@[simp] theorem refuseCommand_busReq (code : Status) (s : State) : (refuseCommand code s).busReq = s.busReq := rfl
@[simp] theorem refuseCommand_inBlock (code : Status) (s : State) : (refuseCommand code s).inBlock = s.inBlock := rfl
@[simp] theorem refuseCommand_trace (code : Status) (s : State) : (refuseCommand code s).trace = s.trace := rfl
@[simp] theorem refuseCommand_dev (code : Status) (s : State) : (refuseCommand code s).dev = s.dev := rfl
@[simp] theorem refuseCommand_cmds (code : Status) (s : State) : (refuseCommand code s).cmds = s.cmds := rfl
@[simp] theorem refuseCommand_uop (code : Status) (s : State) : (refuseCommand code s).uop = s.uop := rfl
@[simp] theorem refuseCommand_rsps (code : Status) (s : State) : (refuseCommand code s).rsps = s.rsps := rfl
@[simp] theorem refuseCommand_rst (code : Status) (s : State) : (refuseCommand code s).rst = s.rst := rfl
@[simp] theorem refuseCommand_freeCount (code : Status) (s : State) : (refuseCommand code s).freeCount = s.freeCount := rfl
@[simp] theorem refuseCommand_params (code : Status) (s : State) : (refuseCommand code s).params = s.params := rfl

@[simp] theorem plan_cfg (s : State) : (plan s).cfg = s.cfg := rfl
@[simp] theorem plan_dp (s : State) : (plan s).dp = planDatapath s.params.numArith s.cfg.refFreq s.dp := rfl
@[simp] theorem plan_buf (s : State) : (plan s).buf = s.buf := rfl
@[simp] theorem plan_seq (s : State) : (plan s).seq = s.seq := rfl
@[simp] theorem plan_widx (s : State) : (plan s).widx = s.widx := rfl
@[simp] theorem plan_flags (s : State) : (plan s).flags = s.flags := rfl
@[simp] theorem plan_busReq (s : State) : (plan s).busReq = s.busReq := rfl
@[simp] theorem plan_inBlock (s : State) : (plan s).inBlock = s.inBlock := rfl
@[simp] theorem plan_trace (s : State) : (plan s).trace = s.trace := rfl
@[simp] theorem plan_dev (s : State) : (plan s).dev = s.dev := rfl
@[simp] theorem plan_cmds (s : State) : (plan s).cmds = s.cmds := rfl
@[simp] theorem plan_uop (s : State) : (plan s).uop = s.uop := rfl
@[simp] theorem plan_rsps (s : State) : (plan s).rsps = s.rsps := rfl
@[simp] theorem plan_rst (s : State) : (plan s).rst = s.rst := rfl
@[simp] theorem plan_freeCount (s : State) : (plan s).freeCount = s.freeCount := rfl
@[simp] theorem plan_params (s : State) : (plan s).params = s.params := rfl

@[simp] theorem setTriple_cfg (tr : Triple) (s : State) : (setTriple tr s).cfg = s.cfg := rfl
@[simp] theorem setTriple_dp (tr : Triple) (s : State) : (setTriple tr s).dp = { s.dp with p1 := tr.p1, p2 := tr.p2, p3 := tr.p3 } := rfl
@[simp] theorem setTriple_buf (tr : Triple) (s : State) : (setTriple tr s).buf = s.buf := rfl
@[simp] theorem setTriple_seq (tr : Triple) (s : State) : (setTriple tr s).seq = s.seq := rfl
@[simp] theorem setTriple_widx (tr : Triple) (s : State) : (setTriple tr s).widx = s.widx := rfl
@[simp] theorem setTriple_flags (tr : Triple) (s : State) : (setTriple tr s).flags = s.flags := rfl
@[simp] theorem setTriple_busReq (tr : Triple) (s : State) : (setTriple tr s).busReq = s.busReq := rfl
@[simp] theorem setTriple_inBlock (tr : Triple) (s : State) : (setTriple tr s).inBlock = s.inBlock := rfl
@[simp] theorem setTriple_trace (tr : Triple) (s : State) : (setTriple tr s).trace = s.trace := rfl
@[simp] theorem setTriple_dev (tr : Triple) (s : State) : (setTriple tr s).dev = s.dev := rfl
@[simp] theorem setTriple_cmds (tr : Triple) (s : State) : (setTriple tr s).cmds = s.cmds := rfl
@[simp] theorem setTriple_uop (tr : Triple) (s : State) : (setTriple tr s).uop = s.uop := rfl
@[simp] theorem setTriple_rsps (tr : Triple) (s : State) : (setTriple tr s).rsps = s.rsps := rfl
@[simp] theorem setTriple_rst (tr : Triple) (s : State) : (setTriple tr s).rst = s.rst := rfl
@[simp] theorem setTriple_freeCount (tr : Triple) (s : State) : (setTriple tr s).freeCount = s.freeCount := rfl
@[simp] theorem setTriple_params (tr : Triple) (s : State) : (setTriple tr s).params = s.params := rfl

@[simp] theorem pack8_cfg (s : State) : (pack8 s).cfg = s.cfg := rfl
@[simp] theorem pack8_dp (s : State) : (pack8 s).dp = s.dp := rfl
@[simp] theorem pack8_buf (s : State) : (pack8 s).buf = packBytes s.dp.p1 s.dp.p2 s.dp.p3 s.dp.extra := rfl
@[simp] theorem pack8_seq (s : State) : (pack8 s).seq = s.seq := rfl
@[simp] theorem pack8_widx (s : State) : (pack8 s).widx = s.widx := rfl
@[simp] theorem pack8_flags (s : State) : (pack8 s).flags = s.flags := rfl
@[simp] theorem pack8_busReq (s : State) : (pack8 s).busReq = s.busReq := rfl
@[simp] theorem pack8_inBlock (s : State) : (pack8 s).inBlock = s.inBlock := rfl
@[simp] theorem pack8_trace (s : State) : (pack8 s).trace = s.trace := rfl
@[simp] theorem pack8_dev (s : State) : (pack8 s).dev = s.dev := rfl
@[simp] theorem pack8_cmds (s : State) : (pack8 s).cmds = s.cmds := rfl
@[simp] theorem pack8_uop (s : State) : (pack8 s).uop = s.uop := rfl
@[simp] theorem pack8_rsps (s : State) : (pack8 s).rsps = s.rsps := rfl
@[simp] theorem pack8_rst (s : State) : (pack8 s).rst = s.rst := rfl
@[simp] theorem pack8_freeCount (s : State) : (pack8 s).freeCount = s.freeCount := rfl
@[simp] theorem pack8_params (s : State) : (pack8 s).params = s.params := rfl

@[simp] theorem stepOff_cfg (s : State) : (stepOff s).cfg = s.cfg := rfl
@[simp] theorem stepOff_dp (s : State) : (stepOff s).dp = { s.dp with off := s.dp.off + 1 } := rfl
@[simp] theorem stepOff_buf (s : State) : (stepOff s).buf = s.buf := rfl
@[simp] theorem stepOff_seq (s : State) : (stepOff s).seq = s.seq := rfl
@[simp] theorem stepOff_widx (s : State) : (stepOff s).widx = s.widx := rfl
@[simp] theorem stepOff_flags (s : State) : (stepOff s).flags = s.flags := rfl
@[simp] theorem stepOff_busReq (s : State) : (stepOff s).busReq = s.busReq := rfl
@[simp] theorem stepOff_inBlock (s : State) : (stepOff s).inBlock = s.inBlock := rfl
@[simp] theorem stepOff_trace (s : State) : (stepOff s).trace = s.trace := rfl
@[simp] theorem stepOff_dev (s : State) : (stepOff s).dev = s.dev := rfl
@[simp] theorem stepOff_cmds (s : State) : (stepOff s).cmds = s.cmds := rfl
@[simp] theorem stepOff_uop (s : State) : (stepOff s).uop = s.uop := rfl
@[simp] theorem stepOff_rsps (s : State) : (stepOff s).rsps = s.rsps := rfl
@[simp] theorem stepOff_rst (s : State) : (stepOff s).rst = s.rst := rfl
@[simp] theorem stepOff_freeCount (s : State) : (stepOff s).freeCount = s.freeCount := rfl
@[simp] theorem stepOff_params (s : State) : (stepOff s).params = s.params := rfl

@[simp] theorem closeBlock_cfg (s : State) : (closeBlock s).cfg = s.cfg := rfl
@[simp] theorem closeBlock_dp (s : State) : (closeBlock s).dp = s.dp := rfl
@[simp] theorem closeBlock_buf (s : State) : (closeBlock s).buf = s.buf := rfl
@[simp] theorem closeBlock_seq (s : State) : (closeBlock s).seq = s.seq := rfl
@[simp] theorem closeBlock_widx (s : State) : (closeBlock s).widx = s.widx := rfl
@[simp] theorem closeBlock_flags (s : State) : (closeBlock s).flags = s.flags := rfl
@[simp] theorem closeBlock_busReq (s : State) : (closeBlock s).busReq = s.busReq := rfl
@[simp] theorem closeBlock_inBlock (s : State) : (closeBlock s).inBlock = false := rfl
@[simp] theorem closeBlock_trace (s : State) : (closeBlock s).trace = s.trace := rfl
@[simp] theorem closeBlock_dev (s : State) : (closeBlock s).dev = s.dev := rfl
@[simp] theorem closeBlock_cmds (s : State) : (closeBlock s).cmds = s.cmds := rfl
@[simp] theorem closeBlock_uop (s : State) : (closeBlock s).uop = s.uop := rfl
@[simp] theorem closeBlock_rsps (s : State) : (closeBlock s).rsps = s.rsps := rfl
@[simp] theorem closeBlock_rst (s : State) : (closeBlock s).rst = s.rst := rfl
@[simp] theorem closeBlock_freeCount (s : State) : (closeBlock s).freeCount = s.freeCount := rfl
@[simp] theorem closeBlock_params (s : State) : (closeBlock s).params = s.params := rfl

@[simp] theorem prepareBlock_cfg (blk : BlockId) (extra : Byte) (s : State) : (prepareBlock blk extra s).cfg = s.cfg := rfl
@[simp] theorem prepareBlock_dp (blk : BlockId) (extra : Byte) (s : State) : (prepareBlock blk extra s).dp = { s.dp with base := blockBase blk, extra := extra, off := 0 } := rfl
@[simp] theorem prepareBlock_buf (blk : BlockId) (extra : Byte) (s : State) : (prepareBlock blk extra s).buf = packBytes s.dp.p1 s.dp.p2 s.dp.p3 extra := rfl
@[simp] theorem prepareBlock_seq (blk : BlockId) (extra : Byte) (s : State) : (prepareBlock blk extra s).seq = s.seq := rfl
@[simp] theorem prepareBlock_widx (blk : BlockId) (extra : Byte) (s : State) : (prepareBlock blk extra s).widx = s.widx := rfl
@[simp] theorem prepareBlock_flags (blk : BlockId) (extra : Byte) (s : State) : (prepareBlock blk extra s).flags = s.flags := rfl
@[simp] theorem prepareBlock_busReq (blk : BlockId) (extra : Byte) (s : State) : (prepareBlock blk extra s).busReq = s.busReq := rfl
@[simp] theorem prepareBlock_inBlock (blk : BlockId) (extra : Byte) (s : State) : (prepareBlock blk extra s).inBlock = true := rfl
@[simp] theorem prepareBlock_trace (blk : BlockId) (extra : Byte) (s : State) : (prepareBlock blk extra s).trace = s.trace := rfl
@[simp] theorem prepareBlock_dev (blk : BlockId) (extra : Byte) (s : State) : (prepareBlock blk extra s).dev = s.dev := rfl
@[simp] theorem prepareBlock_cmds (blk : BlockId) (extra : Byte) (s : State) : (prepareBlock blk extra s).cmds = s.cmds := rfl
@[simp] theorem prepareBlock_uop (blk : BlockId) (extra : Byte) (s : State) : (prepareBlock blk extra s).uop = s.uop := rfl
@[simp] theorem prepareBlock_rsps (blk : BlockId) (extra : Byte) (s : State) : (prepareBlock blk extra s).rsps = s.rsps := rfl
@[simp] theorem prepareBlock_rst (blk : BlockId) (extra : Byte) (s : State) : (prepareBlock blk extra s).rst = s.rst := rfl
@[simp] theorem prepareBlock_freeCount (blk : BlockId) (extra : Byte) (s : State) : (prepareBlock blk extra s).freeCount = s.freeCount := rfl
@[simp] theorem prepareBlock_params (blk : BlockId) (extra : Byte) (s : State) : (prepareBlock blk extra s).params = s.params := rfl

@[simp] theorem acceptConstruct_cfg (a : Bool) (ref : Word32) (s : State) : (acceptConstruct a ref s).cfg = ⟨resolveDevAddr a, ref, true⟩ := rfl
@[simp] theorem acceptConstruct_dp (a : Bool) (ref : Word32) (s : State) : (acceptConstruct a ref s).dp = s.dp := rfl
@[simp] theorem acceptConstruct_buf (a : Bool) (ref : Word32) (s : State) : (acceptConstruct a ref s).buf = s.buf := rfl
@[simp] theorem acceptConstruct_seq (a : Bool) (ref : Word32) (s : State) : (acceptConstruct a ref s).seq = s.seq := rfl
@[simp] theorem acceptConstruct_widx (a : Bool) (ref : Word32) (s : State) : (acceptConstruct a ref s).widx = s.widx := rfl
@[simp] theorem acceptConstruct_flags (a : Bool) (ref : Word32) (s : State) : (acceptConstruct a ref s).flags = s.flags.succeeded := rfl
@[simp] theorem acceptConstruct_busReq (a : Bool) (ref : Word32) (s : State) : (acceptConstruct a ref s).busReq = s.busReq := rfl
@[simp] theorem acceptConstruct_inBlock (a : Bool) (ref : Word32) (s : State) : (acceptConstruct a ref s).inBlock = s.inBlock := rfl
@[simp] theorem acceptConstruct_trace (a : Bool) (ref : Word32) (s : State) : (acceptConstruct a ref s).trace = s.trace := rfl
@[simp] theorem acceptConstruct_dev (a : Bool) (ref : Word32) (s : State) : (acceptConstruct a ref s).dev = s.dev := rfl
@[simp] theorem acceptConstruct_cmds (a : Bool) (ref : Word32) (s : State) : (acceptConstruct a ref s).cmds = s.cmds := rfl
@[simp] theorem acceptConstruct_uop (a : Bool) (ref : Word32) (s : State) : (acceptConstruct a ref s).uop = s.uop := rfl
@[simp] theorem acceptConstruct_rsps (a : Bool) (ref : Word32) (s : State) : (acceptConstruct a ref s).rsps = s.rsps := rfl
@[simp] theorem acceptConstruct_rst (a : Bool) (ref : Word32) (s : State) : (acceptConstruct a ref s).rst = s.rst := rfl
@[simp] theorem acceptConstruct_freeCount (a : Bool) (ref : Word32) (s : State) : (acceptConstruct a ref s).freeCount = s.freeCount := rfl
@[simp] theorem acceptConstruct_params (a : Bool) (ref : Word32) (s : State) : (acceptConstruct a ref s).params = s.params := rfl

@[simp] theorem acceptSetFrequency_cfg (t : Word32) (s : State) : (acceptSetFrequency t s).cfg = s.cfg := rfl
@[simp] theorem acceptSetFrequency_dp (t : Word32) (s : State) : (acceptSetFrequency t s).dp = { s.dp with tf := t } := rfl
@[simp] theorem acceptSetFrequency_buf (t : Word32) (s : State) : (acceptSetFrequency t s).buf = s.buf := rfl
@[simp] theorem acceptSetFrequency_seq (t : Word32) (s : State) : (acceptSetFrequency t s).seq = .idle := rfl
@[simp] theorem acceptSetFrequency_widx (t : Word32) (s : State) : (acceptSetFrequency t s).widx = 0 := rfl
@[simp] theorem acceptSetFrequency_flags (t : Word32) (s : State) : (acceptSetFrequency t s).flags = s.flags.accepted := rfl
@[simp] theorem acceptSetFrequency_busReq (t : Word32) (s : State) : (acceptSetFrequency t s).busReq = s.busReq := rfl
@[simp] theorem acceptSetFrequency_inBlock (t : Word32) (s : State) : (acceptSetFrequency t s).inBlock = s.inBlock := rfl
@[simp] theorem acceptSetFrequency_trace (t : Word32) (s : State) : (acceptSetFrequency t s).trace = s.trace := rfl
@[simp] theorem acceptSetFrequency_dev (t : Word32) (s : State) : (acceptSetFrequency t s).dev = s.dev := rfl
@[simp] theorem acceptSetFrequency_cmds (t : Word32) (s : State) : (acceptSetFrequency t s).cmds = s.cmds := rfl
@[simp] theorem acceptSetFrequency_uop (t : Word32) (s : State) : (acceptSetFrequency t s).uop = s.uop := rfl
@[simp] theorem acceptSetFrequency_rsps (t : Word32) (s : State) : (acceptSetFrequency t s).rsps = s.rsps := rfl
@[simp] theorem acceptSetFrequency_rst (t : Word32) (s : State) : (acceptSetFrequency t s).rst = s.rst := rfl
@[simp] theorem acceptSetFrequency_freeCount (t : Word32) (s : State) : (acceptSetFrequency t s).freeCount = s.freeCount := rfl
@[simp] theorem acceptSetFrequency_params (t : Word32) (s : State) : (acceptSetFrequency t s).params = s.params := rfl

/-! `advance` writes SEQ_STATE and, on reaching ClockEnabled, the flags. -/

@[simp] theorem advance_cfg (s : State) : (advance s).cfg = s.cfg := by
  unfold advance; split <;> rfl
@[simp] theorem advance_dp (s : State) : (advance s).dp = s.dp := by
  unfold advance; split <;> rfl
@[simp] theorem advance_buf (s : State) : (advance s).buf = s.buf := by
  unfold advance; split <;> rfl
@[simp] theorem advance_widx (s : State) : (advance s).widx = s.widx := by
  unfold advance; split <;> rfl
@[simp] theorem advance_busReq (s : State) : (advance s).busReq = s.busReq := by
  unfold advance; split <;> rfl
@[simp] theorem advance_inBlock (s : State) : (advance s).inBlock = s.inBlock := by
  unfold advance; split <;> rfl
@[simp] theorem advance_trace (s : State) : (advance s).trace = s.trace := by
  unfold advance; split <;> rfl
@[simp] theorem advance_dev (s : State) : (advance s).dev = s.dev := by
  unfold advance; split <;> rfl
@[simp] theorem advance_cmds (s : State) : (advance s).cmds = s.cmds := by
  unfold advance; split <;> rfl
@[simp] theorem advance_uop (s : State) : (advance s).uop = s.uop := by
  unfold advance; split <;> rfl
@[simp] theorem advance_rsps (s : State) : (advance s).rsps = s.rsps := by
  unfold advance; split <;> rfl
@[simp] theorem advance_rst (s : State) : (advance s).rst = s.rst := by
  unfold advance; split <;> rfl
@[simp] theorem advance_freeCount (s : State) : (advance s).freeCount = s.freeCount := by
  unfold advance; split <;> rfl
@[simp] theorem advance_params (s : State) : (advance s).params = s.params := by
  unfold advance; split <;> rfl

theorem advance_idle {s : State} (h : s.seq = .idle) : advance s = { s with seq := .computedParameters } := by
  simp [advance, h]
theorem advance_computed {s : State} (h : s.seq = .computedParameters) :
    advance s = { s with seq := .pllProgrammed } := by
  simp [advance, h]
theorem advance_pllProgrammed {s : State} (h : s.seq = .pllProgrammed) :
    advance s = { s with seq := .multisynthProgrammed } := by
  simp [advance, h]
theorem advance_multisynth {s : State} (h : s.seq = .multisynthProgrammed) :
    advance s = { s with seq := .pllReset } := by
  simp [advance, h]
theorem advance_pllReset {s : State} (h : s.seq = .pllReset) :
    advance s = { s with seq := .clockEnabled, flags := s.flags.succeeded } := by
  simp [advance, h]

/-! A reset event keeps what the other agents hold and puts the block's own state to its reset values. -/

@[simp] theorem resetEvent_cfg (s : State) : (resetEvent s).cfg = State.reset.cfg := rfl
@[simp] theorem resetEvent_dp (s : State) : (resetEvent s).dp = State.reset.dp := rfl
@[simp] theorem resetEvent_buf (s : State) : (resetEvent s).buf = State.reset.buf := rfl
@[simp] theorem resetEvent_seq (s : State) : (resetEvent s).seq = State.reset.seq := rfl
@[simp] theorem resetEvent_widx (s : State) : (resetEvent s).widx = State.reset.widx := rfl
@[simp] theorem resetEvent_flags (s : State) : (resetEvent s).flags = State.reset.flags := rfl
@[simp] theorem resetEvent_busReq (s : State) : (resetEvent s).busReq = State.reset.busReq := rfl
@[simp] theorem resetEvent_inBlock (s : State) : (resetEvent s).inBlock = State.reset.inBlock := rfl
@[simp] theorem resetEvent_trace (s : State) : (resetEvent s).trace = s.trace := by
  simp only [resetEvent, abandonWrite]; split <;> rfl
@[simp] theorem resetEvent_cmds (s : State) : (resetEvent s).cmds = s.cmds := by
  simp only [resetEvent, abandonWrite]; split <;> rfl
@[simp] theorem resetEvent_uop (s : State) : (resetEvent s).uop = State.reset.uop := rfl
@[simp] theorem resetEvent_rsps (s : State) : (resetEvent s).rsps = s.rsps := by
  simp only [resetEvent, abandonWrite]; split <;> rfl
@[simp] theorem resetEvent_rst (s : State) : (resetEvent s).rst = s.rst := by
  simp only [resetEvent, abandonWrite]; split <;> rfl
@[simp] theorem resetEvent_params (s : State) : (resetEvent s).params = s.params := by
  simp only [resetEvent, abandonWrite]; split <;> rfl

theorem resetEvent_dev_free {s : State} (h : s.busReq = none) : (resetEvent s).dev = s.dev := by
  simp [resetEvent, abandonWrite, h]
theorem resetEvent_dev_busy {s : State} {w : BusWord} (h : s.busReq = some w) :
    (resetEvent s).dev = s.dev.write (deviceKey s.cfg.devAddr (w.extractLsb' 8 8)) (lostWriteByte s.freeCount) := by
  simp [resetEvent, abandonWrite, h]

/-! The flags. -/

@[simp] theorem Flags.accepted_busy (f : Flags) : (f.accepted).busy = true := rfl
@[simp] theorem Flags.accepted_doneFlag (f : Flags) : (f.accepted).doneFlag = false := rfl
@[simp] theorem Flags.accepted_failFlag (f : Flags) : (f.accepted).failFlag = false := rfl
@[simp] theorem Flags.accepted_status (f : Flags) : (f.accepted).status = .none := rfl
@[simp] theorem Flags.accepted_errInfo (f : Flags) : (f.accepted).errInfo = none := rfl
@[simp] theorem Flags.succeeded_busy (f : Flags) : (f.succeeded).busy = false := rfl
@[simp] theorem Flags.succeeded_doneFlag (f : Flags) : (f.succeeded).doneFlag = true := rfl
@[simp] theorem Flags.succeeded_failFlag (f : Flags) : (f.succeeded).failFlag = false := rfl
@[simp] theorem Flags.succeeded_status (f : Flags) : (f.succeeded).status = .ok := rfl
@[simp] theorem Flags.succeeded_errInfo (f : Flags) : (f.succeeded).errInfo = none := rfl
@[simp] theorem Flags.refused_busy (f : Flags) (c : Status) : (f.refused c).busy = f.busy := rfl
@[simp] theorem Flags.refused_doneFlag (f : Flags) (c : Status) : (f.refused c).doneFlag = false := rfl
@[simp] theorem Flags.refused_failFlag (f : Flags) (c : Status) : (f.refused c).failFlag = true := rfl
@[simp] theorem Flags.refused_status (f : Flags) (c : Status) : (f.refused c).status = c := rfl
@[simp] theorem Flags.refused_errInfo (f : Flags) (c : Status) : (f.refused c).errInfo = none := rfl
@[simp] theorem Flags.transportFailed_busy (f : Flags) (e : ErrT) : (f.transportFailed e).busy = false := rfl
@[simp] theorem Flags.transportFailed_doneFlag (f : Flags) (e : ErrT) : (f.transportFailed e).doneFlag = false := rfl
@[simp] theorem Flags.transportFailed_failFlag (f : Flags) (e : ErrT) : (f.transportFailed e).failFlag = true := rfl
@[simp] theorem Flags.transportFailed_status (f : Flags) (e : ErrT) : (f.transportFailed e).status = .transportError := rfl
@[simp] theorem Flags.transportFailed_errInfo (f : Flags) (e : ErrT) : (f.transportFailed e).errInfo = some e := rfl

end Sys2Proof.Machine
end

