-- ==== Sys2Proof/Laws/Memory.lean ====
section
/-! SUPPORT. The device registers: read after write, and the canonical form, which every memory operation keeps. -/

namespace Sys2Proof.Machine

theorem Memory.read_write_same (m : Memory) (a : Nat) (v : Byte) : (m.write a v).read a = some v := by
  induction m with
  | nil => simp [Memory.write, Memory.read]
  | cons c m ih =>
    obtain ⟨b, w⟩ := c
    by_cases h1 : a < b
    · simp [Memory.write, Memory.read, h1]
    · by_cases h2 : a = b
      · simp [Memory.write, Memory.read, h2]
      · simp [Memory.write, Memory.read, h1, h2, ih]

theorem Memory.read_write_other (m : Memory) (a a' : Nat) (v : Byte) (h : a' ≠ a) :
    (m.write a v).read a' = m.read a' := by
  induction m with
  | nil => simp [Memory.write, Memory.read, h]
  | cons c m ih =>
    obtain ⟨b, w⟩ := c
    by_cases h1 : a < b
    · simp [Memory.write, Memory.read, h1, h]
    · by_cases h2 : a = b
      · subst h2; simp [Memory.write, Memory.read, h]
      · simp [Memory.write, Memory.read, h1, h2, ih]

theorem Memory.risesFrom_write (m : Memory) (lo a : Nat) (v : Byte) (hlo : lo ≤ a) (ha : a < 2 ^ 15)
    (h : Memory.risesFrom lo m = true) : Memory.risesFrom lo (m.write a v) = true := by
  induction m generalizing lo with
  | nil => simpa [Memory.write, Memory.risesFrom, hlo] using ha
  | cons c m ih =>
    obtain ⟨b, w⟩ := c
    simp only [Memory.risesFrom, Bool.and_eq_true, decide_eq_true_eq] at h
    by_cases h1 : a < b
    · simp [Memory.write, Memory.risesFrom, h1, hlo, h.2]
      omega
    · by_cases h2 : a = b
      · subst h2; simpa [Memory.write, Memory.risesFrom, hlo, h.2] using ha
      · simp only [Memory.write, h1, h2, if_false, Memory.risesFrom, Bool.and_eq_true, decide_eq_true_eq]
        exact ⟨h.1, ih (b + 1) (by omega) h.2⟩

/-- A write keeps the canonical form. -/
theorem Memory.wf_write (m : Memory) (a : Nat) (v : Byte) (ha : a < 2 ^ 15) (h : m.wf = true) :
    (m.write a v).wf = true :=
  Memory.risesFrom_write m 0 a v (Nat.zero_le a) ha h

theorem deviceKey_lt (a7 : BusAddr) (reg : Byte) : deviceKey a7 reg < 2 ^ 15 := by
  have h1 := a7.isLt
  have h2 := reg.isLt
  unfold deviceKey
  omega

theorem deviceKey_injective {a a' : BusAddr} {r r' : Byte} (h : deviceKey a r = deviceKey a' r') :
    a = a' ∧ r = r' := by
  have h2 := r.isLt
  have h4 := r'.isLt
  unfold deviceKey at h
  constructor <;> apply BitVec.eq_of_toNat_eq <;> omega

/-- Reset's memory is in canonical form. -/
theorem reset_dev_wf : State.reset.dev.wf = true := rfl

theorem answerOk_dev_wf (reg val : Byte) (s : State) (h : s.dev.wf = true) : (answerOk reg val s).dev.wf = true :=
  Memory.wf_write _ _ _ (deviceKey_lt _ _) h

theorem loseWrite_dev_wf (reg : Byte) (s : State) (h : s.dev.wf = true) : (loseWrite reg s).dev.wf = true :=
  Memory.wf_write _ _ _ (deviceKey_lt _ _) h

theorem answerErr_dev_wf (reg val : Byte) (e : Config.ErrT) (s : State) (h : s.dev.wf = true) :
    (answerErr reg val e s).dev.wf = true :=
  Memory.wf_write _ _ _ (deviceKey_lt _ _) h

theorem resetEvent_dev_wf (s : State) (h : s.dev.wf = true) : (resetEvent s).dev.wf = true := by
  cases hb : s.busReq with
  | none => rw [resetEvent_dev_free hb]; exact h
  | some w => rw [resetEvent_dev_busy hb]; exact Memory.wf_write _ _ _ (deviceKey_lt _ _) h

end Sys2Proof.Machine
end

