-- ==== Sys2Proof/Laws/Progress.lean ====
section
/-! SUPPORT. What the shared operations can do: sequencing, the bus write, the loop of a block write, and the exec of a
decoded bus write. -/

namespace Sys2Proof.Machine

open Sys2Proof.Config

@[simp] theorem Progress.andThen_completed (s : State) (f : State → Progress) :
    (Progress.completed s).andThen f = f s := rfl
@[simp] theorem Progress.andThen_raised (s : State) (f : State → Progress) :
    (Progress.raised s).andThen f = .raised s := rfl
@[simp] theorem Progress.andThen_waiting (s : State) (f : State → Progress) :
    (Progress.waiting s).andThen f = .waiting s := rfl
@[simp] theorem Progress.state_completed (s : State) : (Progress.completed s).state = s := rfl
@[simp] theorem Progress.state_raised (s : State) : (Progress.raised s).state = s := rfl
@[simp] theorem Progress.state_waiting (s : State) : (Progress.waiting s).state = s := rfl
@[simp] theorem Progress.outcome_eq (p : Progress) : p.outcome = .next p.state := rfl

theorem busWrite_ok {s : State} {rest : List BusRsp} (reg val : Byte) (h : s.rsps = .answered .ok :: rest) :
    busWrite reg val s = .completed (answerOk reg val { s with rsps := rest }) := by
  simp [busWrite, h]

theorem busWrite_err {s : State} {rest : List BusRsp} {e : ErrT} (reg val : Byte)
    (h : s.rsps = .answered (.err e) :: rest) :
    busWrite reg val s = .raised (answerErr reg val e { s with rsps := rest }) := by
  simp [busWrite, h]

theorem busWrite_silent {s : State} {rest : List BusRsp} (reg val : Byte) (h : s.rsps = .silent :: rest) :
    busWrite reg val s = .waiting (holdRequest reg val { s with rsps := rest }) := by
  simp [busWrite, h]

theorem busWrite_unanswered {s : State} (reg val : Byte) (h : s.rsps = []) :
    busWrite reg val s = .waiting (holdRequest reg val s) := by
  simp [busWrite, h]

/-- All a bus write can do. -/
theorem busWrite_cases (reg val : Byte) (s : State) :
    (∃ rest, s.rsps = .answered .ok :: rest ∧
      busWrite reg val s = .completed (answerOk reg val { s with rsps := rest })) ∨
    (∃ e rest, s.rsps = .answered (.err e) :: rest ∧
      busWrite reg val s = .raised (answerErr reg val e { s with rsps := rest })) ∨
    (∃ rest, (s.rsps = .silent :: rest ∨ (s.rsps = [] ∧ rest = [])) ∧
      busWrite reg val s = .waiting (holdRequest reg val { s with rsps := rest })) := by
  obtain h | ⟨r, rest, h⟩ : s.rsps = [] ∨ ∃ r rest, s.rsps = r :: rest := by
    cases s.rsps with
    | nil => exact .inl rfl
    | cons r rest => exact .inr ⟨r, rest, rfl⟩
  · refine .inr (.inr ⟨[], .inr ⟨h, rfl⟩, ?_⟩)
    rw [busWrite_unanswered reg val h, ← h]
  · cases r with
    | silent => exact .inr (.inr ⟨rest, .inl h, busWrite_silent reg val h⟩)
    | answered a =>
      cases a with
      | ok => exact .inl ⟨rest, h, busWrite_ok reg val h⟩
      | err e => exact .inr (.inl ⟨e, rest, h, busWrite_err reg val h⟩)

@[simp] theorem writeBytes_nil (s : State) : writeBytes [] s = .completed (closeBlock s) := rfl

theorem writeBytes_cons (v : Byte) (vs : List Byte) (s : State) :
    writeBytes (v :: vs) s =
      (busWrite (s.dp.base + s.dp.off.setWidth 8) v s).andThen (fun s1 => writeBytes vs (stepOff s1)) := rfl

/-- What holds of the state an operation leaves: `C` when it has completed, `Q` when it stopped or waits. -/
def Progress.Leaves (p : Progress) (C Q : State → Prop) : Prop :=
  match p with
  | .completed s => C s
  | .raised s => Q s
  | .waiting s => Q s

theorem Progress.Leaves.andThen {p : Progress} {f : State → Progress} {C D Q : State → Prop} (h : p.Leaves C Q)
    (hf : ∀ s, C s → (f s).Leaves D Q) : (p.andThen f).Leaves D Q := by
  cases p with
  | completed s => exact hf s h
  | raised s => exact h
  | waiting s => exact h

theorem Progress.Leaves.state {p : Progress} {C Q : State → Prop} (h : p.Leaves C Q) (hc : ∀ s, C s → Q s) :
    Q p.state := by
  cases p with
  | completed s => exact hc s h
  | raised s => exact h
  | waiting s => exact h

/-- A bus write leaves what its three outcomes leave. -/
theorem busWrite_leaves {reg val : Byte} {s : State} {C Q : State → Prop}
    (hok : ∀ rest, C (answerOk reg val { s with rsps := rest }))
    (herr : ∀ e rest, Q (answerErr reg val e { s with rsps := rest }))
    (hwait : ∀ rest, Q (holdRequest reg val { s with rsps := rest })) : (busWrite reg val s).Leaves C Q := by
  rcases busWrite_cases reg val s with ⟨rest, _, h⟩ | ⟨e, rest, _, h⟩ | ⟨rest, _, h⟩ <;> rw [h]
  · exact hok rest
  · exact herr e rest
  · exact hwait rest

/-- A decoded bus write acts as the bus write of its payload. -/
theorem exec_decodeBus {w : BusWord} {i : Instr} (s : State) (h : decodeBus w = .ok i) :
    exec i s = (busWrite (w.extractLsb' 8 8) (w.extractLsb' 0 8) s).outcome := by
  have hreg : ∀ n : Nat, n < 256 → (w.extractLsb' 8 8).toNat = n → w.extractLsb' 8 8 = BitVec.ofNat 8 n := by
    intro n hn e
    apply BitVec.eq_of_toNat_eq
    rw [e, BitVec.toNat_ofNat, Nat.mod_eq_of_lt hn]
  unfold decodeBus at h
  simp only at h
  split at h
  all_goals first
    | contradiction
    | (rename_i hr
       have hr' := hreg _ (by decide) hr
       split at h
       · rename_i hv
         cases h
         rw [hr', hv]
         rfl
       · first
           | contradiction
           | (split at h
              · rename_i hv
                cases h
                rw [hr', hv]
                rfl
              · contradiction))
    | (rename_i hr
       have hr' := hreg _ (by decide) hr
       cases h
       rw [hr']
       rfl)

/-- The outstanding write is looked at as the bus write of its payload, whether or not R64 names its kind. -/
theorem stepOutstanding_eq (w : BusWord) (s : State) :
    stepOutstanding w s = .next (resume (busWrite (w.extractLsb' 8 8) (w.extractLsb' 0 8) s).state) := by
  unfold stepOutstanding
  cases h : decodeBus w with
  | ok i => simp only [exec_decodeBus s h]; rfl
  | error e => rfl

end Sys2Proof.Machine
end

