-- ==== Sys2Proof/Laws/Closed.lean ====
section
/-! SUPPORT. A property of the configuration, the parameters, the trace and the device registers that every bus write
keeps is kept by every operation, by the sequencer and by what the sequencer does after an answer. -/

namespace Sys2Proof.Machine

/-- `P` is kept by a bus write, and depends on the trace, the device, the configuration and the parameters only. -/
structure Closed (P : State → Prop) : Prop where
  bus : ∀ (reg val : Byte) (s : State), P s → (busWrite reg val s).Leaves P P
  ext : ∀ s s' : State, P s → s'.trace = s.trace → s'.dev = s.dev → s'.cfg = s.cfg → s'.params = s.params → P s'

namespace Closed

variable {P : State → Prop} (c : Closed P)

include c

theorem keepsWriteBytes (l : List Byte) : ∀ s, P s → (writeBytes l s).Leaves P P := by
  induction l with
  | nil => exact fun s h => c.ext s _ h rfl rfl rfl rfl
  | cons v l ih =>
    intro s h
    rw [writeBytes_cons]
    exact (c.bus _ _ _ h).andThen (fun x hx => ih _ (c.ext x _ hx rfl rfl rfl rfl))

theorem keepsAdvance {s : State} (h : P s) : P (advance s) :=
  c.ext s _ h (advance_trace s) (advance_dev s) (advance_cfg s) (advance_params s)

theorem keepsEncodeAndWrite (blk : BlockId) (extra : Byte) {s : State} (h : P s) :
    (encodeAndWrite blk extra s).Leaves P P :=
  c.keepsWriteBytes _ _ (c.ext s (prepareBlock blk extra s) h rfl rfl rfl rfl)

theorem keepsFromPllReset {s : State} (h : P s) : (runFromPllReset s).Leaves P P :=
  (c.bus _ _ s h).andThen (fun _ hx => c.keepsAdvance hx)

theorem keepsFromMultisynth {s : State} (h : P s) : (runFromMultisynth s).Leaves P P :=
  (c.bus _ _ s h).andThen (fun _ hx => c.keepsFromPllReset (c.keepsAdvance hx))

theorem keepsFromPllProgrammed {s : State} (h : P s) : (runFromPllProgrammed s).Leaves P P :=
  (c.keepsEncodeAndWrite .ms0 0 (c.ext s (encMs s) h rfl rfl rfl rfl)).andThen
    (fun _ hx => c.keepsFromMultisynth (c.keepsAdvance hx))

theorem keepsFromComputed {s : State} (h : P s) : (runFromComputed s).Leaves P P :=
  (c.keepsEncodeAndWrite .pllA 0 (c.ext s (encPll s) h rfl rfl rfl rfl)).andThen
    (fun _ hx => c.keepsFromPllProgrammed (c.keepsAdvance hx))

theorem keepsRunSequence {s : State} (h : P s) : (runSequence s).Leaves P P := by
  unfold runSequence
  split
  · exact c.keepsFromComputed (c.keepsAdvance (c.ext s (plan s) h rfl rfl rfl rfl))
  · exact c.keepsFromComputed h
  · exact c.keepsFromPllProgrammed h
  · exact c.keepsFromMultisynth h
  · exact c.keepsFromPllReset h
  · exact h
  · exact h

theorem keepsFinishOperation {s : State} (h : P s) : (finishOperation s).Leaves P P := by
  unfold finishOperation
  split
  · exact c.keepsWriteBytes _ _ (c.ext s (stepOff s) h rfl rfl rfl rfl)
  · exact h

theorem keepsFinishCommand {s : State} (h : P s) : (finishCommand s).Leaves P P := by
  unfold finishCommand
  split
  · simp only []
    split
    · exact c.keepsRunSequence (c.keepsAdvance h)
    · exact c.keepsAdvance h
  · exact h

theorem keepsResume {s : State} (h : P s) : P (resume s) := by
  unfold resume
  split
  · exact h
  · exact ((c.keepsFinishOperation h).andThen (fun _ hx => c.keepsFinishCommand hx)).state (fun _ h => h)

end Closed
end Sys2Proof.Machine
end

