-- ==== Sys2Proof/Laws/PerInstr.lean ====
section
/-! SUPPORT. A family of facts about the instruction as syntax, one lemma per constructor. -/

namespace Sys2Proof.Laws.TableRow

open Sys2Proof

/-- The word of an instruction has the bits its row of opcode_table.json fixes. -/
def Statement (i : Instr) : Prop := (encode i).bits &&& i.row.mask = i.row.pattern

theorem construct (addrSel : Bool) (ref : Word32) : Statement (.construct addrSel ref) := (hostWord_and_op 0x0 addrSel ref).trans rfl
theorem setFrequency (t : Word32) : Statement (.setFrequency t) := (hostWord_and_op_as 0x1 false t).trans rfl
theorem plan : Statement .plan := by unfold Statement; decide
theorem encPll : Statement .encPll := by unfold Statement; decide
theorem encMs : Statement .encMs := by unfold Statement; decide
theorem pack8 : Statement .pack8 := by unfold Statement; decide
theorem writeReg (reg val : Byte) : Statement (.writeReg reg val) := (uopWord_and_code reg val 0x6).trans rfl
theorem encodeAndWrite (blk : BlockId) (extra : Byte) : Statement (.encodeAndWrite blk extra) := (uopWord_and_code blk.selector extra 0x7).trans rfl
theorem resetPll (p : Pll) : Statement (.resetPll p) := (uopWord_and_code p.selector 0 0x8).trans rfl
theorem enableClock (c : Clk) : Statement (.enableClock c) := (uopWord_and_code c.selector 0 0x9).trans rfl
theorem wrPlla_0 (v : Byte) : Statement (.wrPlla_0 v) := (busWord_and_reg 26 v).trans rfl
theorem wrPlla_1 (v : Byte) : Statement (.wrPlla_1 v) := (busWord_and_reg 27 v).trans rfl
theorem wrPlla_2 (v : Byte) : Statement (.wrPlla_2 v) := (busWord_and_reg 28 v).trans rfl
theorem wrPlla_3 (v : Byte) : Statement (.wrPlla_3 v) := (busWord_and_reg 29 v).trans rfl
theorem wrPlla_4 (v : Byte) : Statement (.wrPlla_4 v) := (busWord_and_reg 30 v).trans rfl
theorem wrPlla_5 (v : Byte) : Statement (.wrPlla_5 v) := (busWord_and_reg 31 v).trans rfl
theorem wrPlla_6 (v : Byte) : Statement (.wrPlla_6 v) := (busWord_and_reg 32 v).trans rfl
theorem wrPlla_7 (v : Byte) : Statement (.wrPlla_7 v) := (busWord_and_reg 33 v).trans rfl
theorem wrPllb_0 (v : Byte) : Statement (.wrPllb_0 v) := (busWord_and_reg 34 v).trans rfl
theorem wrPllb_1 (v : Byte) : Statement (.wrPllb_1 v) := (busWord_and_reg 35 v).trans rfl
theorem wrPllb_2 (v : Byte) : Statement (.wrPllb_2 v) := (busWord_and_reg 36 v).trans rfl
theorem wrPllb_3 (v : Byte) : Statement (.wrPllb_3 v) := (busWord_and_reg 37 v).trans rfl
theorem wrPllb_4 (v : Byte) : Statement (.wrPllb_4 v) := (busWord_and_reg 38 v).trans rfl
theorem wrPllb_5 (v : Byte) : Statement (.wrPllb_5 v) := (busWord_and_reg 39 v).trans rfl
theorem wrPllb_6 (v : Byte) : Statement (.wrPllb_6 v) := (busWord_and_reg 40 v).trans rfl
theorem wrPllb_7 (v : Byte) : Statement (.wrPllb_7 v) := (busWord_and_reg 41 v).trans rfl
theorem wrMs0_0 (v : Byte) : Statement (.wrMs0_0 v) := (busWord_and_reg 42 v).trans rfl
theorem wrMs0_1 (v : Byte) : Statement (.wrMs0_1 v) := (busWord_and_reg 43 v).trans rfl
theorem wrMs0_2 (v : Byte) : Statement (.wrMs0_2 v) := (busWord_and_reg 44 v).trans rfl
theorem wrMs0_3 (v : Byte) : Statement (.wrMs0_3 v) := (busWord_and_reg 45 v).trans rfl
theorem wrMs0_4 (v : Byte) : Statement (.wrMs0_4 v) := (busWord_and_reg 46 v).trans rfl
theorem wrMs0_5 (v : Byte) : Statement (.wrMs0_5 v) := (busWord_and_reg 47 v).trans rfl
theorem wrMs0_6 (v : Byte) : Statement (.wrMs0_6 v) := (busWord_and_reg 48 v).trans rfl
theorem wrMs0_7 (v : Byte) : Statement (.wrMs0_7 v) := (busWord_and_reg 49 v).trans rfl
theorem wrMs1_0 (v : Byte) : Statement (.wrMs1_0 v) := (busWord_and_reg 50 v).trans rfl
theorem wrMs1_1 (v : Byte) : Statement (.wrMs1_1 v) := (busWord_and_reg 51 v).trans rfl
theorem wrMs1_2 (v : Byte) : Statement (.wrMs1_2 v) := (busWord_and_reg 52 v).trans rfl
theorem wrMs1_3 (v : Byte) : Statement (.wrMs1_3 v) := (busWord_and_reg 53 v).trans rfl
theorem wrMs1_4 (v : Byte) : Statement (.wrMs1_4 v) := (busWord_and_reg 54 v).trans rfl
theorem wrMs1_5 (v : Byte) : Statement (.wrMs1_5 v) := (busWord_and_reg 55 v).trans rfl
theorem wrMs1_6 (v : Byte) : Statement (.wrMs1_6 v) := (busWord_and_reg 56 v).trans rfl
theorem wrMs1_7 (v : Byte) : Statement (.wrMs1_7 v) := (busWord_and_reg 57 v).trans rfl
theorem wrMs2_0 (v : Byte) : Statement (.wrMs2_0 v) := (busWord_and_reg 58 v).trans rfl
theorem wrMs2_1 (v : Byte) : Statement (.wrMs2_1 v) := (busWord_and_reg 59 v).trans rfl
theorem wrMs2_2 (v : Byte) : Statement (.wrMs2_2 v) := (busWord_and_reg 60 v).trans rfl
theorem wrMs2_3 (v : Byte) : Statement (.wrMs2_3 v) := (busWord_and_reg 61 v).trans rfl
theorem wrMs2_4 (v : Byte) : Statement (.wrMs2_4 v) := (busWord_and_reg 62 v).trans rfl
theorem wrMs2_5 (v : Byte) : Statement (.wrMs2_5 v) := (busWord_and_reg 63 v).trans rfl
theorem wrMs2_6 (v : Byte) : Statement (.wrMs2_6 v) := (busWord_and_reg 64 v).trans rfl
theorem wrMs2_7 (v : Byte) : Statement (.wrMs2_7 v) := (busWord_and_reg 65 v).trans rfl
theorem wrPllrstA : Statement .wrPllrstA := by unfold Statement; decide
theorem wrPllrstB : Statement .wrPllrstB := by unfold Statement; decide
theorem wrClk0En : Statement .wrClk0En := by unfold Statement; decide
theorem wrClk1En : Statement .wrClk1En := by unfold Statement; decide
theorem wrClk2En : Statement .wrClk2En := by unfold Statement; decide

end Sys2Proof.Laws.TableRow
end

