-- ==== Sys2Proof/Laws/Plan.lean ====
section
/-! SUPPORT. PLAN's registers are a function of x[TF] and the reference alone, and no later operation of the command
changes them; the microprogram is the two blocks and the two last writes. -/

namespace Sys2Proof.Machine

open Sys2Proof.Config

/-- Planning again changes nothing. -/
theorem planDatapath_idem (c : Choice) (ref : Word32) (x : Datapath) :
    planDatapath c ref (planDatapath c ref x) = planDatapath c ref x := rfl

/-- A planned datapath stays planned when only the registers PLAN does not write change. -/
theorem planDatapath_keep {c : Choice} {ref : Word32} {x : Datapath} (h : planDatapath c ref x = x)
    (p1 p2 p3 : Word32) (base extra : Byte) (off : BitVec 4) :
    planDatapath c ref { x with p1 := p1, p2 := p2, p3 := p3, base := base, extra := extra, off := off } =
      { x with p1 := p1, p2 := p2, p3 := p3, base := base, extra := extra, off := off } := by
  rw [show planDatapath c ref { x with p1 := p1, p2 := p2, p3 := p3, base := base, extra := extra, off := off } =
    { planDatapath c ref x with p1 := p1, p2 := p2, p3 := p3, base := base, extra := extra, off := off } from rfl, h]

/-- R7's division where it is defined. -/
theorem divOf_pos (a : Nat) {b : Nat} (h : b ≠ 0) : divOf a b = a / b := if_neg h

/-- R7's remainder where it is defined. -/
theorem modOf_pos (a : Nat) {b : Nat} (h : b ≠ 0) : modOf a b = a % b := if_neg h

/-- R80: `x[P2] <- wrap32(128 * num - den * q)`, where the division is defined. -/
theorem pllRest_eq (num : Nat) {den : Nat} (h : den ≠ 0) :
    (pllRest num den : Int) = 128 * num - den * pllFloor num den := by
  rw [pllRest, pllFloor, modOf_pos _ h, divOf_pos _ h]
  have := Nat.div_add_mod (128 * num) den
  zify at this
  push_cast
  linarith

@[simp] theorem micro_length (s : State) : s.micro.length = 18 := rfl

/-- No register is written twice in one command (20_memory.md R39). -/
theorem micro_nodup (s : State) : (s.micro.map Prod.fst).Nodup := by
  rw [show s.micro.map Prod.fst =
    [26, 27, 28, 29, 30, 31, 32, 33, 42, 43, 44, 45, 46, 47, 48, 49, 177, 16] from rfl]
  decide

/-- R103 as R101's four operations. -/
theorem microprogram_eq (a m : Triple) :
    microprogram a m =
      blockWrites 26 (packBytes a.p1 a.p2 a.p3 0) ++
        (blockWrites 42 (packBytes m.p1 m.p2 m.p3 0) ++ [(177, 0x20), (16, 0x4F)]) := by
  simp [microprogram, blockWrites, packBytes, bitsOf]

end Sys2Proof.Machine
end

