-- ==== Sys2Proof/Laws/Runs.lean ====
section
/-! SUPPORT. What a run of bus writes does, said once for every list of answers the transport may give: `Emits` for one
bus write, for a sequence of operations and for the loop of a block write. The statements about SET_FREQUENCY and
ENCODE_AND_WRITE follow by cutting their lists of writes at the operations' borders. -/

namespace Sys2Proof.Machine

/-- The device registers after the writes `ws` to the device at `a7`. -/
def storeAll (a7 : BusAddr) (ws : List (Byte × Byte)) (m : Memory) : Memory :=
  ws.foldl (fun m w => m.write (deviceKey a7 w.1) w.2) m

theorem Memory.read_write (m : Memory) (a a' : Nat) (v : Byte) :
    (m.write a v).read a' = if a' = a then some v else m.read a' := by
  split
  · rename_i h
    subst h
    exact Memory.read_write_same _ _ _
  · rename_i h
    exact Memory.read_write_other _ _ _ _ h

theorem storeAll_other (a7 : BusAddr) (ws : List (Byte × Byte)) (m : Memory) (a : BusAddr) (r : Byte)
    (h : ¬ (a = a7 ∧ r ∈ ws.map Prod.fst)) :
    (storeAll a7 ws m).read (deviceKey a r) = m.read (deviceKey a r) := by
  induction ws generalizing m with
  | nil => rfl
  | cons w ws ih =>
    show (storeAll a7 ws _).read _ = _
    rw [ih _ (fun hh => h ⟨hh.1, List.mem_cons_of_mem _ hh.2⟩), Memory.read_write, if_neg]
    intro hk
    obtain ⟨h1, h2⟩ := deviceKey_injective hk
    exact h ⟨h1, by simp [h2]⟩

theorem storeAll_holds (a7 : BusAddr) (ws : List (Byte × Byte)) (m : Memory) (hn : (ws.map Prod.fst).Nodup)
    (w : Byte × Byte) (hw : w ∈ ws) : (storeAll a7 ws m).read (deviceKey a7 w.1) = some w.2 := by
  induction ws generalizing m with
  | nil => cases hw
  | cons v ws ih =>
    simp only [List.map_cons, List.nodup_cons] at hn
    rcases List.mem_cons.mp hw with rfl | hw
    · show (storeAll a7 ws _).read _ = _
      rw [storeAll_other _ _ _ _ _ (fun h => hn.1 h.2), Memory.read_write]
      simp
    · exact ih _ hn.2 hw

/-- `s'` comes from `s` by the writes `ws`, all answered `Ok`, and by steps that change only the datapath, the byte buffer,
the position, the flags and the answers still to come. -/
structure OkRun (s s' : State) (ws : List (Byte × Byte)) : Prop where
  outside : s.sameOutside s'
  trace : s'.trace = s.trace ++ ws.map (okEvent s.cfg.devAddr)
  dev : s'.dev = storeAll s.cfg.devAddr ws s.dev
  widx : s'.widx = s.widx + BitVec.ofNat 5 ws.length
  free : s'.freeCount = s.freeCount
  quiet : s.busReq = none → s'.busReq = none
  answered : ws ≠ [] → s'.busReq = none

theorem OkRun.nothing {s s' : State} (h1 : s.sameOutside s') (h2 : s'.trace = s.trace) (h3 : s'.dev = s.dev)
    (h4 : s'.widx = s.widx) (h5 : s'.freeCount = s.freeCount) (h6 : s'.busReq = s.busReq) : OkRun s s' [] :=
  ⟨h1, by simp [h2], h3, by simp [h4], h5, fun h => h6.trans h, fun h => absurd rfl h⟩

theorem OkRun.trans {s1 s2 s3 : State} {u v : List (Byte × Byte)} (h : OkRun s1 s2 u) (g : OkRun s2 s3 v) :
    OkRun s1 s3 (u ++ v) := by
  obtain ⟨⟨o1, o2, o3, o4, o5⟩, t, d, w, f, b0, b1⟩ := h
  obtain ⟨⟨p1, p2, p3, p4, p5⟩, t', d', w', f', c0, c1⟩ := g
  refine ⟨⟨p1.trans o1, p2.trans o2, p3.trans o3, p4.trans o4, p5.trans o5⟩, ?_, ?_, ?_, f'.trans f,
    fun h => c0 (b0 h), ?_⟩
  · rw [t', t, o1, List.map_append, List.append_assoc]
  · rw [d', d, o1, storeAll, storeAll, storeAll, List.foldl_append]
  · rw [w', w, List.length_append, BitVec.ofNat_add, BitVec.add_assoc]
  · intro h
    by_cases hv : v = []
    · subst hv
      exact c0 (b1 (by simpa using h))
    · exact c1 hv

/-- Every register written holds its value, when no register is written twice. -/
theorem OkRun.holds {s s' : State} {ws : List (Byte × Byte)} (h : OkRun s s' ws) (hn : (ws.map Prod.fst).Nodup) :
    s'.holds s.cfg.devAddr ws := by
  intro w hw
  show s'.dev.read _ = _
  rw [h.dev]
  exact storeAll_holds _ _ _ hn _ hw

/-- Every other register reads as before. -/
theorem OkRun.same {s s' : State} {ws : List (Byte × Byte)} (h : OkRun s s' ws) :
    s.devSameExcept s' s.cfg.devAddr (ws.map Prod.fst) := by
  intro a r hr
  show s'.dev.read _ = s.dev.read _
  rw [h.dev]
  exact storeAll_other _ _ _ _ _ hr

/-- The transport does not answer at this look. -/
def unanswered (later : List BusRsp) : Prop := later = [] ∨ ∃ rest, later = .silent :: rest

theorem oks_add (m n : Nat) : oks (m + n) = oks m ++ oks n := List.replicate_add m n _

/-- Whatever the transport shows, it shows `n` answers `Ok`, or fewer followed by an error or by no answer. -/
theorem answers_split (n : Nat) : ∀ l : List BusRsp,
    (∃ rest, l = oks n ++ rest) ∨
    ∃ k, k < n ∧
      ((∃ e rest, l = oks k ++ .answered (.err e) :: rest) ∨ ∃ later, unanswered later ∧ l = oks k ++ later) := by
  induction n with
  | zero => exact fun l => .inl ⟨l, rfl⟩
  | succ n ih =>
    intro l
    cases l with
    | nil => exact .inr ⟨0, by omega, .inr ⟨[], .inl rfl, rfl⟩⟩
    | cons a l =>
      cases a with
      | silent => exact .inr ⟨0, by omega, .inr ⟨_, .inr ⟨l, rfl⟩, rfl⟩⟩
      | answered a =>
        cases a with
        | err e => exact .inr ⟨0, by omega, .inl ⟨e, l, rfl⟩⟩
        | ok =>
          rcases ih l with ⟨r, rfl⟩ | ⟨k, hk, ⟨e, r, rfl⟩ | ⟨r, hq, rfl⟩⟩
          · exact .inl ⟨r, rfl⟩
          · exact .inr ⟨k + 1, by omega, .inl ⟨e, r, rfl⟩⟩
          · exact .inr ⟨k + 1, by omega, .inr ⟨r, hq, rfl⟩⟩

/-- The operation `p` started in `s` issues the writes `ws`: with all of them answered `Ok` it completes in a state with
`Q`; with write `k` the first to fail, or the first not to be answered, it stops or waits there, in a state that had
`R k` when write `k` was issued. -/
def Emits (p : Progress) (s : State) (ws : List (Byte × Byte)) (Q : State → Prop) (R : Nat → State → Prop) : Prop :=
  (∀ rest, s.rsps = oks ws.length ++ rest → ∃ s', p = .completed s' ∧ OkRun s s' ws ∧ s'.rsps = rest ∧ Q s') ∧
  (∀ k w e rest, ws[k]? = some w → s.rsps = oks k ++ .answered (.err e) :: rest →
    ∃ s1, p = .raised (answerErr w.1 w.2 e s1) ∧ OkRun s s1 (ws.take k) ∧ s1.rsps = rest ∧ R k s1) ∧
  (∀ k w later, ws[k]? = some w → unanswered later → s.rsps = oks k ++ later →
    ∃ s1, p = .waiting (holdRequest w.1 w.2 s1) ∧ OkRun s s1 (ws.take k) ∧ s1.rsps = later.tail ∧ R k s1)

/-- Weaken what is known of the states an operation passes through. -/
theorem Emits.mono {p : Progress} {s : State} {ws : List (Byte × Byte)} {Q Q' : State → Prop}
    {R R' : Nat → State → Prop} (h : Emits p s ws Q R) (hq : ∀ s', OkRun s s' ws → Q s' → Q' s')
    (hr : ∀ k s', k < ws.length → R k s' → R' k s') : Emits p s ws Q' R' := by
  obtain ⟨h1, h2, h3⟩ := h
  refine ⟨fun rest h => ?_, fun k w e rest hw h => ?_, fun k w later hw hu h => ?_⟩
  · obtain ⟨s', a, b, c, d⟩ := h1 _ h
    exact ⟨s', a, b, c, hq _ b d⟩
  · obtain ⟨s', a, b, c, d⟩ := h2 _ _ _ _ hw h
    exact ⟨s', a, b, c, hr _ _ (List.getElem?_eq_some_iff.mp hw).1 d⟩
  · obtain ⟨s', a, b, c, d⟩ := h3 _ _ _ hw hu h
    exact ⟨s', a, b, c, hr _ _ (List.getElem?_eq_some_iff.mp hw).1 d⟩

/-- Start the count at an earlier state from which no write was issued. -/
theorem Emits.rebase {p : Progress} {s0 s : State} {ws : List (Byte × Byte)} {Q : State → Prop}
    {R : Nat → State → Prop} (h : Emits p s ws Q R) (hr : s.rsps = s0.rsps) (h0 : OkRun s0 s []) :
    Emits p s0 ws Q R := by
  obtain ⟨h1, h2, h3⟩ := h
  refine ⟨fun rest h => ?_, fun k w e rest hw h => ?_, fun k w later hw hu h => ?_⟩
  · obtain ⟨s', a, b, c, d⟩ := h1 _ (hr.trans h)
    exact ⟨s', a, h0.trans b, c, d⟩
  · obtain ⟨s', a, b, c, d⟩ := h2 _ _ _ _ hw (hr.trans h)
    exact ⟨s', a, h0.trans b, c, d⟩
  · obtain ⟨s', a, b, c, d⟩ := h3 _ _ _ hw hu (hr.trans h)
    exact ⟨s', a, h0.trans b, c, d⟩

/-- An operation that issues no write. -/
theorem Emits.done {s s' : State} {Q : State → Prop} {R : Nat → State → Prop} (h0 : OkRun s s' [])
    (hr : s'.rsps = s.rsps) (hq : Q s') : Emits (.completed s') s [] Q R :=
  ⟨fun _ h => ⟨s', rfl, h0, hr.trans h, hq⟩, fun _ _ _ _ hw => by simp at hw, fun _ _ _ hw => by simp at hw⟩

/-- Two operations in sequence issue the writes of the first and then those of the second. -/
theorem Emits.andThen {p : Progress} {f : State → Progress} {s : State} {u v : List (Byte × Byte)}
    {Q Q' : State → Prop} {R R' : Nat → State → Prop} (h : Emits p s u Q R)
    (g : ∀ s', Q s' → OkRun s s' u → Emits (f s') s' v Q' R') :
    Emits (p.andThen f) s (u ++ v) Q' (fun k s1 => if k < u.length then R k s1 else R' (k - u.length) s1) := by
  obtain ⟨h1, h2, h3⟩ := h
  refine ⟨fun rest hr => ?_, fun k w e rest hw hr => ?_, fun k w later hw hu hr => ?_⟩
  · rw [List.length_append, oks_add, List.append_assoc] at hr
    obtain ⟨s', hp, ho, hrr, hq⟩ := h1 _ hr
    obtain ⟨s2, hp2, ho2, hr2, hq2⟩ := (g s' hq ho).1 _ hrr
    exact ⟨s2, by rw [hp]; exact hp2, ho.trans ho2, hr2, hq2⟩
  · by_cases hk : k < u.length
    · rw [List.getElem?_append_left hk] at hw
      obtain ⟨s1, hp, ho, hrr, hR⟩ := h2 _ _ _ _ hw hr
      refine ⟨s1, by rw [hp]; rfl, ?_, hrr, by simp [hk, hR]⟩
      rw [List.take_append_of_le_length (by omega)]
      exact ho
    · rw [List.getElem?_append_right (by omega)] at hw
      rw [show k = u.length + (k - u.length) by omega, oks_add, List.append_assoc] at hr
      obtain ⟨s', hp, ho, hrr, hq⟩ := h1 _ hr
      obtain ⟨s2, hp2, ho2, hr2, hR2⟩ := (g s' hq ho).2.1 _ _ _ _ hw hrr
      refine ⟨s2, by rw [hp]; exact hp2, ?_, hr2, by simp [hk, hR2]⟩
      rw [List.take_append, List.take_of_length_le (by omega)]
      exact ho.trans ho2
  · by_cases hk : k < u.length
    · rw [List.getElem?_append_left hk] at hw
      obtain ⟨s1, hp, ho, hrr, hR⟩ := h3 _ _ _ hw hu hr
      refine ⟨s1, by rw [hp]; rfl, ?_, hrr, by simp [hk, hR]⟩
      rw [List.take_append_of_le_length (by omega)]
      exact ho
    · rw [List.getElem?_append_right (by omega)] at hw
      rw [show k = u.length + (k - u.length) by omega, oks_add, List.append_assoc] at hr
      obtain ⟨s', hp, ho, hrr, hq⟩ := h1 _ hr
      obtain ⟨s2, hp2, ho2, hr2, hR2⟩ := (g s' hq ho).2.2 _ _ _ hw hu hrr
      refine ⟨s2, by rw [hp]; exact hp2, ?_, hr2, by simp [hk, hR2]⟩
      rw [List.take_append, List.take_of_length_le (by omega)]
      exact ho.trans ho2

/-- The part of the state that a bus write answered `Ok` or not answered leaves alone. -/
def sameCore (s s' : State) : Prop :=
  s'.dp = s.dp ∧ s'.buf = s.buf ∧ s'.seq = s.seq ∧ s'.flags = s.flags ∧ s'.inBlock = s.inBlock

theorem emits_busWrite (reg val : Byte) (s : State) :
    Emits (busWrite reg val s) s [(reg, val)] (sameCore s) (fun _ => sameCore s) := by
  have first : ∀ {k : Nat} {w : Byte × Byte}, [(reg, val)][k]? = some w → k = 0 ∧ w = (reg, val) := by
    intro k w hw
    have hk : k = 0 := by
      have := (List.getElem?_eq_some_iff.mp hw).1
      simpa using this
    subst hk
    exact ⟨rfl, by cases hw; rfl⟩
  refine ⟨fun rest hr => ?_, fun k w e rest hw hr => ?_, fun k w later hw hu hr => ?_⟩
  · exact ⟨_, busWrite_ok reg val hr,
      ⟨⟨rfl, rfl, rfl, rfl, rfl⟩, rfl, rfl, rfl, rfl, fun _ => rfl, fun _ => rfl⟩, rfl, rfl, rfl, rfl, rfl, rfl⟩
  · obtain ⟨rfl, rfl⟩ := first hw
    exact ⟨{ s with rsps := rest }, busWrite_err reg val hr,
      OkRun.nothing ⟨rfl, rfl, rfl, rfl, rfl⟩ rfl rfl rfl rfl rfl, rfl, rfl, rfl, rfl, rfl, rfl⟩
  · obtain ⟨rfl, rfl⟩ := first hw
    rcases hu with rfl | ⟨r, rfl⟩
    · exact ⟨s, busWrite_unanswered reg val hr, OkRun.nothing ⟨rfl, rfl, rfl, rfl, rfl⟩ rfl rfl rfl rfl rfl, hr,
        rfl, rfl, rfl, rfl, rfl⟩
    · exact ⟨{ s with rsps := r }, busWrite_silent reg val hr,
        OkRun.nothing ⟨rfl, rfl, rfl, rfl, rfl⟩ rfl rfl rfl rfl rfl, rfl, rfl, rfl, rfl, rfl, rfl⟩

/-- The writes of the bytes `l` at the offsets from `j` on (R92). -/
def writesFrom (base : Byte) (j : Nat) : List Byte → List (Byte × Byte)
  | [] => []
  | v :: l => (base + BitVec.ofNat 8 j, v) :: writesFrom base (j + 1) l

/-- `s'` is inside (`b` true) or after (`b` false) the loop of a block write that has advanced by `k`. -/
def loopAt (s : State) (b : Bool) (k : Nat) (s' : State) : Prop :=
  s'.dp = { s.dp with off := s.dp.off + BitVec.ofNat 4 k } ∧ s'.buf = s.buf ∧ s'.seq = s.seq ∧ s'.flags = s.flags ∧
  s'.inBlock = b

/-- The loop of a block write, from offset `j` on. -/
theorem emits_writeBytes (base : Byte) (l : List Byte) : ∀ (s : State) (j : Nat),
    s.dp.base = base → s.dp.off = BitVec.ofNat 4 j → s.inBlock = true → j + l.length ≤ 15 →
    Emits (writeBytes l s) s (writesFrom base j l) (loopAt s false l.length) (loopAt s true) := by
  induction l with
  | nil =>
    intro s j _ _ _ _
    rw [writeBytes_nil]
    exact Emits.done (OkRun.nothing ⟨rfl, rfl, rfl, rfl, rfl⟩ rfl rfl rfl rfl rfl) rfl
      ⟨by simp [closeBlock], rfl, rfl, rfl, rfl⟩
  | cons v l ih =>
    intro s j hb ho hi hj
    rw [List.length_cons] at hj
    rw [writeBytes_cons]
    have hoff : s.dp.off.setWidth 8 = BitVec.ofNat 8 j := by
      rw [ho]
      apply BitVec.eq_of_toNat_eq
      rw [BitVec.toNat_setWidth, BitVec.toNat_ofNat, BitVec.toNat_ofNat]
      omega
    rw [hb, hoff]
    show Emits _ s ([(base + BitVec.ofNat 8 j, v)] ++ writesFrom base (j + 1) l) _ _
    refine Emits.mono (Emits.andThen (emits_busWrite _ _ s) (v := writesFrom base (j + 1) l)
      (Q' := loopAt s false (l.length + 1)) (R' := fun k s1 => loopAt s true (k + 1) s1) ?_) (fun _ _ h => h) ?_
    · rintro s1 ⟨h1, h2, h3, h4, h5⟩ _
      have shift : ∀ b k s2, loopAt (stepOff s1) b k s2 → loopAt s b (k + 1) s2 := by
        rintro b k s2 ⟨a1, a2, a3, a4, a5⟩
        refine ⟨?_, a2.trans h2, a3.trans h3, a4.trans h4, a5⟩
        rw [a1]
        simp only [stepOff]
        rw [h1]
        congr 1
        rw [BitVec.add_assoc, Nat.add_comm k, BitVec.ofNat_add]
        rfl
      refine Emits.rebase (Emits.mono (ih (stepOff s1) (j + 1) (by simp [h1, hb]) ?_ (by simp [h5, hi]) (by omega))
        (fun s2 _ => shift false l.length s2) (fun k s2 _ => shift true k s2)) rfl
        (OkRun.nothing ⟨rfl, rfl, rfl, rfl, rfl⟩ rfl rfl rfl rfl rfl)
      show s1.dp.off + 1 = _
      rw [h1, ho, BitVec.ofNat_add]
      rfl
    · intro k s1 _ h
      split at h
      · rename_i hk
        obtain ⟨h1, h2, h3, h4, h5⟩ := h
        have : k = 0 := by simpa using hk
        subst this
        exact ⟨by rw [h1]; simp, h2, h3, h4, h5.trans hi⟩
      · rename_i hk
        rw [List.length_singleton] at hk h
        rwa [show k - 1 + 1 = k by omega] at h

end Sys2Proof.Machine
end

