-- ==== Sys2Proof/Laws/Step.lean ====
section
/-! SUPPORT. All that a step can do, said once: the outstanding write, the command in progress, a lone operation, a
presented command, or nothing, in that order. -/

namespace Sys2Proof.Machine

/-- A step in which reset is not asserted is a running step. -/
theorem step_running {s : State} (h : s.rst.head? ≠ some true) : step s = stepRunning { s with rst := s.rst.tail } := by
  unfold step
  match hr : s.rst with
  | true :: _ => simp [hr] at h
  | false :: _ => rfl
  | [] =>
    have : s = { s with rst := [] } := by rw [← hr]
    simp only [List.tail_nil]
    rw [← this]

/-- All a running step can do. -/
theorem stepRunning_cases (s : State) :
    (∃ w, s.busReq = some w ∧
      stepRunning s = .next (resume (busWrite (w.extractLsb' 8 8) (w.extractLsb' 0 8) s).state)) ∨
    (s.busReq = none ∧ s.flags.busy = true ∧ stepRunning s = .next (runSequence s).state) ∨
    (∃ w, s.busReq = none ∧ s.flags.busy = false ∧ s.uop = some w ∧ stepRunning s = stepUop w { s with uop := none }) ∨
    (∃ w rest, s.busReq = none ∧ s.flags.busy = false ∧ s.uop = none ∧ s.cmds = w :: rest ∧
      stepRunning s = stepCommand w { s with cmds := rest }) ∨
    (s.busReq = none ∧ s.flags.busy = false ∧ s.uop = none ∧ s.cmds = [] ∧ stepRunning s = .next s) := by
  cases hq : s.busReq with
  | some w => exact .inl ⟨w, rfl, by simp only [stepRunning, hq]; exact stepOutstanding_eq w s⟩
  | none =>
    cases hb : s.flags.busy with
    | true => exact .inr (.inl ⟨rfl, rfl, by simp only [stepRunning, hq, hb, if_true]; rfl⟩)
    | false =>
      cases hu : s.uop with
      | some w =>
        exact .inr (.inr (.inl ⟨w, rfl, rfl, rfl, by simp only [stepRunning, hq, hb, hu, Bool.false_eq_true, if_false]⟩))
      | none =>
        cases hc : s.cmds with
        | cons w rest =>
          refine .inr (.inr (.inr (.inl ⟨w, rest, rfl, rfl, rfl, rfl, ?_⟩)))
          simp only [stepRunning, hq, hb, hu, hc, Bool.false_eq_true, if_false]
        | nil =>
          refine .inr (.inr (.inr (.inr ⟨rfl, rfl, rfl, rfl, ?_⟩)))
          simp only [stepRunning, hq, hb, hu, hc, Bool.false_eq_true, if_false]

end Sys2Proof.Machine
end

