-- ==== Sys2Proof/Tests/Slice0.lean ====
section
/-! SUPPORT. Tests: the well-formedness smoke, words written out from the spec's encodings, one step of each operation
against the spec's own vectors (95_test_vectors.md, cited in each comment), and for every statement with hypotheses a
state and operands that meet them. -/

namespace Sys2Proof.Tests

open Sys2Proof Sys2Proof.Machine Sys2Proof.Config

/-! ## Helpers -/

/-- A constructed, idle block at `a7` with reference `ref` and the answers `rsps` to come. -/
def built (a7 : BusAddr) (ref : Word32) (rsps : List BusRsp) : State :=
  { State.reset with cfg := ⟨a7, ref, true⟩, rsps := rsps }

/-- The next state of an outcome. -/
def after (o : Host.Outcome State Fault Refusal) : State :=
  match o with
  | .next s => s
  | .fault _ => State.reset
  | .refused _ => State.reset

/-- An error value of the transport. Which one it is no test depends on. -/
def someErr : ErrT := ⟨0, .inl rfl⟩

/-- What an outcome left in the trace, as (a7, reg, val) with the answers. -/
def events (o : Host.Outcome State Fault Refusal) : List (BusAddr × Byte × Byte × Answer) :=
  (after o).trace.map (fun e => (e.a7, e.reg, e.val, e.answer))

/-- The values written, in order. -/
def values (o : Host.Outcome State Fault Refusal) : List Byte := (after o).trace.map (fun e => e.val)

/-- A block whose datapath holds the triple. -/
def holding (p1 p2 p3 : Word32) (rsps : List BusRsp) : State :=
  { built 0x60 25000000 rsps with dp := { Datapath.reset with p1 := p1, p2 := p2, p3 := p3 } }

/-! ## Well-formedness: the one check, refused for an ill-formed term and for its word (30_encoding.md R55) -/

theorem test_wellFormed_refuses_extra_bit0 : (Instr.encodeAndWrite .ms0 0x01).wellFormed = false := by decide
theorem test_wellFormed_refuses_extra_bit1 : (Instr.encodeAndWrite .pllB 0x42).wellFormed = false := by decide
theorem test_wellFormed_accepts_extra_0x40 : (Instr.encodeAndWrite .ms0 0x40).wellFormed = true := by decide
theorem test_decoder_refuses_ill_formed_extra :
    decodeUop (uopWord 2 0x01 0x7) = .error (.badOperand (uopWord 2 0x01 0x7)) := by decide

/-! ## Decoding: words written out bit by bit -/

/-- R51, op = 0 in bits 36..33, as = 1 in bit 32, f = 27 000 000 (T10). -/
theorem test_decode_construct :
    decodeHost 0b0000100000001100110111111110011000000#37 = .ok (.construct true 27000000) := by decide
/-- R51, op = 1, as = 0, f = 10 000 000 (T10). -/
theorem test_decode_setFrequency :
    decodeHost 0b0001000000000100110001001011010000000#37 = .ok (.setFrequency 10000000) := by decide
/-- R59: op = 0x8 is no host command (P5 step 5); SET_FREQUENCY with as = 1 is none. -/
theorem test_decode_host_rejects :
    decodeHost 0x1000000000#37 = .error (.illegalOp 0x8) ∧
      decodeHost 0x0300989680#37 = .error .reservedAddrSel := by decide
/-- R52's codes 0x2 .. 0x9, with operand lines 0. -/
theorem test_decode_uop_codes :
    decodeTableWord 8 0b0010 = some .plan ∧ decodeTableWord 8 0b0011 = some .encPll ∧
      decodeTableWord 8 0b0100 = some .encMs ∧ decodeTableWord 8 0b0101 = some .pack8 ∧
      decodeTableWord 8 0b0110 = some (.writeReg 0 0) ∧ decodeTableWord 8 0b0111 = some (.encodeAndWrite .pllA 0) ∧
      decodeTableWord 8 0b1000 = some (.resetPll .a) ∧ decodeTableWord 8 0b1001 = some (.enableClock .clk0) := by
  decide
/-- R52's reserved codes. -/
theorem test_decode_uop_reserved :
    decodeTableWord 8 0x0 = none ∧ decodeTableWord 8 0x1 = none ∧ decodeTableWord 8 0xA = none ∧
      decodeTableWord 8 0xF = none := by decide
/-- R53, R58: one payload of each block (T13 for the first two), register address first. -/
theorem test_decode_buswr_blocks :
    decodeBus 0b0001111111111000#16 = .ok (.wrPlla_5 0xF8) ∧ decodeBus 0b0010110000000001#16 = .ok (.wrMs0_2 0x01) ∧
      decodeBus 0b0010001001011010#16 = .ok (.wrPllb_0 0x5A) ∧ decodeBus 0b0011100111110000#16 = .ok (.wrMs1_7 0xF0) ∧
      decodeBus 0b0100000100000011#16 = .ok (.wrMs2_7 0x03) := by decide
/-- R56, R57 (T13): the fixed-value writes, and two payloads that are none. -/
theorem test_decode_buswr_fixed :
    decodeBus 0xB120#16 = .ok .wrPllrstA ∧ decodeBus 0xB180#16 = .ok .wrPllrstB ∧
      decodeBus 0x104F#16 = .ok .wrClk0En ∧ decodeBus 0x114F#16 = .ok .wrClk1En ∧ decodeBus 0x124F#16 = .ok .wrClk2En ∧
      decodeBus 0xB1A0#16 = .error (.notAWrite 0xB1 0xA0) ∧ decodeBus 0x1900#16 = .error (.notAWrite 0x19 0x00) := by
  decide
/-- A placed word is what the next step runs, one for each port. -/
theorem test_withFetchWord :
    (after (step (State.reset.withFetchWord 40 0x00017D7840))).cfg = ⟨0x60, 25000000, true⟩ ∧
      (after (step (State.reset.withFetchWord 16 0x1FF8))).busReq = some 0x1FF8#16 ∧
      (after (step (State.reset.withFetchWord 8 0x5))).uop = none := by decide

/-! ## One operation each, against the vectors -/

/-- R100's worked example, P2 step 1. -/
theorem test_construct :
    (after (exec (.construct true 27000000) State.reset)).cfg = ⟨0x61, 27000000, true⟩ ∧
      (after (exec (.construct true 27000000) State.reset)).flags = ⟨false, true, false, .ok, none⟩ := by decide
/-- P5 steps 2 and 6. -/
theorem test_construct_refused :
    (after (exec (.construct false 0) State.reset)).flags.status = .domain ∧
      (after (exec (.construct true 27000000) (built 0x60 25000000 []))).flags.status = .illegal := by decide
/-- P2 step 2: the sixteen block bytes, the reset, the enable. -/
theorem test_setFrequency_p2 :
    values (exec (.setFrequency 7100000) (built 0x61 27000000 (oks 18))) =
      [0xFF, 0xFF, 0x00, 0x0E, 0x91, 0xF1, 0x11, 0x11, 0x00, 0x01, 0x00, 0x3D, 0x00, 0x00, 0x00, 0x00, 0x20, 0x4F] := by
  decide
/-- P3 step 2: the fifth write fails. -/
theorem test_setFrequency_p3 :
    events (exec (.setFrequency 14000000) (built 0x60 25000000 (oks 4 ++ [.answered (.err someErr)]))) =
      [(0x60, 0x1A, 0xFF, .ok), (0x60, 0x1B, 0xFF, .ok), (0x60, 0x1C, 0x00, .ok), (0x60, 0x1D, 0x0F, .ok),
        (0x60, 0x1E, 0xEB, .err someErr)] := by decide
/-- T1, the row of 27 000 000 and 7 100 000. -/
theorem test_plan :
    let s := after (exec .plan { built 0x61 27000000 [] with dp := { Datapath.reset with tf := 7100000 } })
    (s.x .d, s.x .pllf, s.x .mult, s.x .rem, s.x .num, s.x .den) = (126, 894600000, 33, 3600000, 139810, 1048575) := by
  decide
/-- T3: the quotient 900 is truncated to 132. -/
theorem test_plan_truncates_mult :
    (after (exec .plan { built 0x60 1000000 [] with dp := { Datapath.reset with tf := 10000000 } })).x .mult = 132 := by
  decide
/-- T5, the row of 35 and 880 803. -/
theorem test_encPll :
    let s := after (exec .encPll { State.reset with
      dp := { Datapath.reset with mult := 35, num := 880803, den := 1048575 } })
    (s.x .p1, s.x .p2, s.x .p3) = (4075, 545259, 1048575) := by decide
/-- T5, the row of 3: -128 wrapped. -/
theorem test_encPll_wraps :
    (after (exec .encPll { State.reset with dp := { Datapath.reset with mult := 3, den := 1048575 } })).x .p1 =
      0xFFFFFF80 := by decide
/-- T8, d = 90. -/
theorem test_encMs :
    let s := after (exec .encMs { State.reset with dp := { Datapath.reset with d := 90 } })
    (s.x .p1, s.x .p2, s.x .p3) = (11008, 0, 1) := by decide
/-- R86, d = 0: -512 wrapped. -/
theorem test_encMs_wraps : (after (exec .encMs State.reset)).x .p1 = 0xFFFFFE00 := by decide
/-- T6, row 4: byte 0 is P3[15:8] (90_conflicts.md C1). -/
theorem test_pack8 :
    (after (exec .pack8 (holding 0x2ABCD 0x12345 0x6789A []))).buf.toList =
      [0x78, 0x9A, 0x02, 0xAB, 0xCD, 0x61, 0x23, 0x45] := by decide
/-- T7: P1[19:18] are not emitted (90_conflicts.md C2). -/
theorem test_pack8_drops_high_bits :
    (after (exec .pack8 (holding 0xFFFFF 0 1 []))).buf.toList = [0x00, 0x01, 0x03, 0xFF, 0xFF, 0x00, 0x00, 0x00] := by
  decide
/-- T9. -/
theorem test_writeReg :
    events (exec (.writeReg 0x1A 0xFF) (built 0x61 25000000 (oks 1))) = [(0x61, 0x1A, 0xFF, .ok)] := by decide
/-- T9: MS2 with (256, 0, 1). -/
theorem test_encodeAndWrite :
    events (exec (.encodeAndWrite .ms2 0) (holding 256 0 1 (oks 8))) =
      [(0x60, 0x3A, 0x00, .ok), (0x60, 0x3B, 0x01, .ok), (0x60, 0x3C, 0x00, .ok), (0x60, 0x3D, 0x01, .ok),
        (0x60, 0x3E, 0x00, .ok), (0x60, 0x3F, 0x00, .ok), (0x60, 0x40, 0x00, .ok), (0x60, 0x41, 0x00, .ok)] := by decide
/-- T6, last row: EXTRA = 0x40 is OR'd into byte 2. -/
theorem test_encodeAndWrite_extra :
    values (exec (.encodeAndWrite .ms1 0x40) (holding 0x15555 0xAAAAA 0x55555 (oks 8))) =
      [0x55, 0x55, 0x41, 0x55, 0x55, 0x5A, 0xAA, 0xAA] := by decide
/-- T9, S5. -/
theorem test_resetPll :
    events (exec (.resetPll .a) (built 0x60 25000000 (oks 1))) = [(0x60, 0xB1, 0x20, .ok)] ∧
      events (exec (.resetPll .b) (built 0x60 25000000 (oks 1))) = [(0x60, 0xB1, 0x80, .ok)] := by decide
/-- T9, S6. -/
theorem test_enableClock :
    events (exec (.enableClock .clk0) (built 0x60 25000000 (oks 1))) = [(0x60, 0x10, 0x4F, .ok)] ∧
      events (exec (.enableClock .clk1) (built 0x60 25000000 (oks 1))) = [(0x60, 0x11, 0x4F, .ok)] ∧
      events (exec (.enableClock .clk2) (built 0x61 25000000 (oks 1))) = [(0x61, 0x12, 0x4F, .ok)] := by decide

/-- The register and value of the one write of `i`. -/
def wrote (i : Instr) : List (Byte × Byte) :=
  (after (exec i (built 0x60 25000000 (oks 1)))).trace.map (fun e => (e.reg, e.val))

/-- R58: PLL A, registers 26 .. 33. -/
theorem test_wrPlla :
    (wrote (.wrPlla_0 1), wrote (.wrPlla_1 2), wrote (.wrPlla_2 3), wrote (.wrPlla_3 4)) =
        ([(26, 1)], [(27, 2)], [(28, 3)], [(29, 4)]) ∧
      (wrote (.wrPlla_4 5), wrote (.wrPlla_5 6), wrote (.wrPlla_6 7), wrote (.wrPlla_7 8)) =
        ([(30, 5)], [(31, 6)], [(32, 7)], [(33, 8)]) := by decide
/-- R58: PLL B, registers 34 .. 41. -/
theorem test_wrPllb :
    (wrote (.wrPllb_0 1), wrote (.wrPllb_1 2), wrote (.wrPllb_2 3), wrote (.wrPllb_3 4)) =
        ([(34, 1)], [(35, 2)], [(36, 3)], [(37, 4)]) ∧
      (wrote (.wrPllb_4 5), wrote (.wrPllb_5 6), wrote (.wrPllb_6 7), wrote (.wrPllb_7 8)) =
        ([(38, 5)], [(39, 6)], [(40, 7)], [(41, 8)]) := by decide
/-- R58: MS0, registers 42 .. 49. -/
theorem test_wrMs0 :
    (wrote (.wrMs0_0 1), wrote (.wrMs0_1 2), wrote (.wrMs0_2 3), wrote (.wrMs0_3 4)) =
        ([(42, 1)], [(43, 2)], [(44, 3)], [(45, 4)]) ∧
      (wrote (.wrMs0_4 5), wrote (.wrMs0_5 6), wrote (.wrMs0_6 7), wrote (.wrMs0_7 8)) =
        ([(46, 5)], [(47, 6)], [(48, 7)], [(49, 8)]) := by decide
/-- R58: MS1, registers 50 .. 57. -/
theorem test_wrMs1 :
    (wrote (.wrMs1_0 1), wrote (.wrMs1_1 2), wrote (.wrMs1_2 3), wrote (.wrMs1_3 4)) =
        ([(50, 1)], [(51, 2)], [(52, 3)], [(53, 4)]) ∧
      (wrote (.wrMs1_4 5), wrote (.wrMs1_5 6), wrote (.wrMs1_6 7), wrote (.wrMs1_7 8)) =
        ([(54, 5)], [(55, 6)], [(56, 7)], [(57, 8)]) := by decide
/-- R58: MS2, registers 58 .. 65. -/
theorem test_wrMs2 :
    (wrote (.wrMs2_0 1), wrote (.wrMs2_1 2), wrote (.wrMs2_2 3), wrote (.wrMs2_3 4)) =
        ([(58, 1)], [(59, 2)], [(60, 3)], [(61, 4)]) ∧
      (wrote (.wrMs2_4 5), wrote (.wrMs2_5 6), wrote (.wrMs2_6 7), wrote (.wrMs2_7 8)) =
        ([(62, 5)], [(63, 6)], [(64, 7)], [(65, 8)]) := by decide
/-- R56, R57: the fixed-value writes. -/
theorem test_wrFixed :
    (wrote .wrPllrstA, wrote .wrPllrstB, wrote .wrClk0En, wrote .wrClk1En, wrote .wrClk2En) =
      ([(177, 0x20)], [(177, 0x80)], [(16, 0x4F)], [(17, 0x4F)], [(18, 0x4F)]) := by decide

/-! ## Witnesses: for every statement with hypotheses, a state and operands that meet them -/

/-- A constructed block with a command in progress, write `k` outstanding and no answer yet (P3's frequency). -/
def waitingAt (k : Nat) : State := after (exec (.setFrequency 14000000) (built 0x60 25000000 (oks k)))

/-- A constructed block with a command presented. -/
def presented (w : CmdWord) : State := { built 0x60 25000000 [] with cmds := [w] }

theorem witness_DecodeOfEncode : (Instr.encodeAndWrite .ms2 0xFC).wellFormed = true := by decide
theorem witness_EncodeOfDecode :
    decode (.hcmd 0x0200989680#37) = .ok (.setFrequency 10000000) ∧
      decode (.uop 0x04FC07#24) = .ok (.encodeAndWrite .ms2 0xFC) ∧ decode (.buswr 0xB180#16) = .ok .wrPllrstB := by
  decide
/-- Each clause, at its boundaries. -/
theorem witness_HostWordFields :
    (0x01FFFFFFFF#37).toNat / 2 ^ 33 = 0 ∧
      ((0x0200000000#37).toNat / 2 ^ 33 = 1 ∧ (0x0200000000#37).toNat / 2 ^ 32 % 2 = 0) ∧
      ((0x03FFFFFFFF#37).toNat / 2 ^ 33 = 1 ∧ (0x03FFFFFFFF#37).toNat / 2 ^ 32 % 2 = 1) ∧
      (2 ≤ (0x0400000000#37).toNat / 2 ^ 33 ∧ 2 ≤ (0x1FFFFFFFFF#37).toNat / 2 ^ 33) := by decide
/-- The edges of the classified payloads. -/
theorem witness_BusPayloads :
    decodeBus (busWord 26 0) = .ok (.wrPlla_0 0) ∧ decodeBus (busWord 65 0xFF) = .ok (.wrMs2_7 0xFF) ∧
      decodeBus (busWord 25 0) = .error (.notAWrite 25 0) ∧ decodeBus (busWord 66 0) = .error (.notAWrite 66 0) ∧
      decodeBus (busWord 18 0x4F) = .ok .wrClk2En ∧ decodeBus (busWord 18 0x4E) = .error (.notAWrite 18 0x4E) := by
  decide
theorem witness_StepRuns_command : (presented 0x0200989680#37).ready ∧
    (presented 0x0200989680#37).cmds = [0x0200989680#37] ∧
    decodeHost 0x0200989680#37 = .ok (.setFrequency 10000000) := by
  exact ⟨⟨rfl, rfl, rfl, rfl⟩, rfl, by decide⟩
theorem witness_StepRuns_write : (waitingAt 2).rst = [] ∧
    (waitingAt 2).busReq = some 0x1C00#16 ∧ decodeBus 0x1C00#16 = .ok (.wrPlla_2 0) := by decide
theorem witness_StepRuns_uop : (State.reset.placeUop 0x000005#24).rst = [] ∧
    (State.reset.placeUop 0x000005#24).busReq = none ∧ (State.reset.placeUop 0x000005#24).flags.busy = false ∧
    (State.reset.placeUop 0x000005#24).uop = some 0x000005#24 ∧ decodeUop 0x000005#24 = .ok .pack8 := by decide
theorem witness_StepRuns_level : ({ State.reset with rst := [false, true] } : State).rst = false :: [true] := rfl
/-- Reset while write 2 is outstanding: register 28 is the one excepted, register 26 keeps 0xFF. -/
theorem witness_ResetWins :
    let s := { waitingAt 2 with rst := [true] }
    s.rst = true :: [] ∧ s.busReq = some 0x1C00#16 ∧ s.devReg 0x60 26 = some 0xFF := by decide
theorem witness_CommandsWait :
    let s := { waitingAt 2 with cmds := [0x0200989680#37] }
    s.flags.busy = true ∧ s.rst.head? ≠ some true ∧ (after (step s)).cmds = [0x0200989680#37] := by
  decide
/-- A command and a lone PACK8 wait for write 2 of a command in progress. -/
theorem witness_NothingElseRuns :
    let s := { waitingAt 2 with cmds := [0x0200989680#37], uop := some 0x000005#24 }
    s.busReq = some 0x1C00#16 ∧ s.rst.head? ≠ some true ∧ (after (step s)).uop = some 0x000005#24 ∧
      (after (step s)).busReq = some 0x1C00#16 := by
  decide
/-- A lone write in place behind write 2: the trace gets write 2's entry first. -/
theorem witness_OutstandingWrite :
    let s := { waitingAt 2 with rsps := oks 1, uop := some 0x1AFF06#24 }
    s.busReq = some 0x1C00#16 ∧ s.rst.head? ≠ some true ∧ s.rsps = .answered .ok :: [] ∧
      (after (step s)).trace.drop 2 = [⟨0x60, 0x1C, 0x00, .ok⟩] ∧ (after (step s)).uop = some 0x1AFF06#24 := by
  decide
theorem witness_BlockWaits :
    ((waitingAt 17).rst = [] ∧ (waitingAt 17).busReq = some 0x104F#16 ∧
        (waitingAt 17).rsps = []) ∧
      (let s := { waitingAt 17 with rsps := [.silent, .answered .ok] };
        s.rst = [] ∧ s.busReq = some 0x104F#16 ∧ s.rsps = .silent :: [.answered .ok]) ∧
      (State.reset.rst = [] ∧ State.reset.uop = none ∧ State.reset.busReq = none ∧ State.reset.flags.busy = false ∧
        State.reset.cmds = []) := by decide
/-- Each clause: not considered; a second CONSTRUCT; ref = 0; the smallest and the largest ref that is accepted. -/
theorem witness_ConstructOutcome :
    (waitingAt 0).flags.busy = true ∧
      ((built 0x60 25000000 []).flags.busy = false ∧ (built 0x60 25000000 []).cfg.constructed = true) ∧
      (State.reset.flags.busy = false ∧ State.reset.cfg.constructed = false ∧ (0 : Word32) = 0) ∧
      ((1 : Word32) ≠ 0 ∧ (4294967295 : Word32) ≠ 0 ∧
        (after (exec (.construct false 1) State.reset)).cfg = ⟨0x60, 1, true⟩ ∧
        (after (exec (.construct true 4294967295) State.reset)).cfg = ⟨0x61, 4294967295, true⟩) := by decide
/-- Each clause: op 2 and op 15; as = 1; not constructed; t = 0; a second CONSTRUCT; ref = 0. -/
theorem witness_RefusalsInOrder :
    ((presented 0x0400000000#37).ready ∧ 2 ≤ (0x0400000000#37).toNat / 2 ^ 33) ∧
      ((0x0300000000#37).toNat / 2 ^ 33 = 1 ∧ (0x0300000000#37).toNat / 2 ^ 32 % 2 = 1) ∧
      ((0x02FFFFFFFF#37).toNat / 2 ^ 33 = 1 ∧ (0x02FFFFFFFF#37).toNat / 2 ^ 32 % 2 = 0 ∧
        ({ State.reset with cmds := [0x02FFFFFFFF#37] } : State).cfg.constructed = false) ∧
      ((0x0200000000#37).toNat / 2 ^ 33 = 1 ∧ (0x0200000000#37).toNat % 2 ^ 32 = 0 ∧
        (presented 0x0200000000#37).cfg.constructed = true) ∧
      ((0x0000000001#37).toNat / 2 ^ 33 = 0 ∧ (presented 0x0000000001#37).cfg.constructed = true) ∧
      ((0x0100000000#37).toNat / 2 ^ 33 = 0 ∧ (0x0100000000#37).toNat % 2 ^ 32 = 0 ∧
        ({ State.reset with cmds := [0x0100000000#37] } : State).ready) := by
  refine ⟨⟨⟨rfl, rfl, rfl, rfl⟩, by decide⟩, by decide, by decide, by decide, by decide, by decide, by decide,
    ⟨rfl, rfl, rfl, rfl⟩⟩
theorem witness_SetFrequencyCompletes :
    let s := built 0x60 25000000 (oks 18 ++ [.silent])
    s.flags.busy = false ∧ s.cfg.constructed = true ∧ (1 : Word32) ≠ 0 ∧ s.rsps = oks 18 ++ [.silent] := by decide
/-- The first and the last write failing (P6 for the last). -/
theorem witness_SetFrequencyAborts :
    let s0 := built 0x60 25000000 (oks 0 ++ .answered (.err someErr) :: [])
    let s17 := built 0x60 25000000 (oks 17 ++ .answered (.err someErr) :: [])
    (s0.flags.busy = false ∧ s0.cfg.constructed = true ∧ s0.rsps = oks 0 ++ .answered (.err someErr) :: []) ∧
      (s17.flags.busy = false ∧ s17.cfg.constructed = true ∧ s17.rsps = oks 17 ++ .answered (.err someErr) :: []) ∧
      (after (exec (.setFrequency 100000000) s17)).widx = 17 := by decide
/-- The first and the last write not answered; a silent look and no look left. -/
theorem witness_SetFrequencyWaits :
    let s0 := built 0x60 25000000 (oks 0 ++ [])
    let s17 := built 0x60 25000000 (oks 17 ++ [.silent, .answered .ok])
    (s0.flags.busy = false ∧ s0.cfg.constructed = true ∧ s0.rsps = oks 0 ++ []) ∧
      (s17.flags.busy = false ∧ s17.cfg.constructed = true ∧ s17.rsps = oks 17 ++ [.silent, .answered .ok] ∧
        [BusRsp.silent, .answered .ok].head? = some .silent) := by decide

/-- The invariant of a waiting state, from facts that `decide` settles. -/
theorem inv_of_parts {s : State} (h1 : s.uop = none) (h2 : s.dev.wf = true) (h3 : s.cfg.legal)
    (h4 : s.flags.consistent) (h5 : s.positionLegal) (h6 : s.outstandingLegal) (h7 : s.blockLegal) : s.Inv :=
  ⟨h1, h2, h3, h4, h5, h6, h7⟩

theorem waitingAt3_inv : (waitingAt 3).Inv := by
  refine inv_of_parts (by decide) (by decide) (fun _ => ⟨.inl (by decide), by decide⟩) ?_ ?_ ?_ ?_
  · unfold Flags.consistent
    decide
  · exact ⟨fun h => absurd h (by decide), by decide, by decide⟩
  · unfold State.outstandingLegal
    rw [if_pos (by decide)]
    exact ⟨by decide, by decide, by decide⟩
  · exact ⟨by decide, fun _ => ⟨by decide, by decide, by decide⟩, fun h => absurd h (by decide)⟩

theorem waitingAt17_inv : (waitingAt 17).Inv := by
  refine inv_of_parts (by decide) (by decide) (fun _ => ⟨.inl (by decide), by decide⟩) ?_ ?_ ?_ ?_
  · unfold Flags.consistent
    decide
  · exact ⟨fun h => absurd h (by decide), by decide, by decide⟩
  · unfold State.outstandingLegal
    rw [if_pos (by decide)]
    exact ⟨by decide, by decide, by decide⟩
  · exact ⟨by decide, fun h => absurd h (by decide), fun h => absurd h (by decide)⟩

/-- The invariant says nothing of the answers to come, so they may be set. -/
theorem inv_with_rsps {s : State} (h : s.Inv) (l : List BusRsp) : ({ s with rsps := l } : State).Inv := h

/-- `waitingAt k` with the answers to come. -/
def answeredAt (k : Nat) (l : List BusRsp) : State := { waitingAt k with rsps := l }

/-- Writes 3 to 17. -/
theorem witness_WaitingCommandGoesOn :
    (answeredAt 3 (oks 15)).Inv ∧ (answeredAt 3 (oks 15)).flags.busy = true ∧ (answeredAt 3 (oks 15)).rst = [] ∧
      (answeredAt 3 (oks 15)).rsps = oks (18 - (answeredAt 3 (oks 15)).widx.toNat) ++ [] :=
  ⟨inv_with_rsps waitingAt3_inv _, by decide, by decide, by decide⟩
/-- Write 17 alone. -/
theorem witness_WaitingCommandGoesOn_last :
    (answeredAt 17 (oks 1)).Inv ∧ (answeredAt 17 (oks 1)).flags.busy = true ∧ (answeredAt 17 (oks 1)).rst = [] ∧
      (answeredAt 17 (oks 1)).rsps = oks (18 - (answeredAt 17 (oks 1)).widx.toNat) ++ [] :=
  ⟨inv_with_rsps waitingAt17_inv _, by decide, by decide, by decide⟩
/-- Write 3 itself failing. -/
theorem witness_WaitingCommandAborts :
    (answeredAt 3 [.answered (.err someErr)]).Inv ∧ (answeredAt 3 [.answered (.err someErr)]).flags.busy = true ∧
      (answeredAt 3 [.answered (.err someErr)]).rst = [] ∧ (answeredAt 3 [.answered (.err someErr)]).widx.toNat + 0 < 18 ∧
      (answeredAt 3 [.answered (.err someErr)]).rsps = oks 0 ++ .answered (.err someErr) :: [] :=
  ⟨inv_with_rsps waitingAt3_inv _, by decide, by decide, by decide, by decide⟩
/-- Write 17 failing. -/
theorem witness_WaitingCommandAborts_last :
    (answeredAt 3 (oks 14 ++ .answered (.err someErr) :: [])).Inv ∧
      (answeredAt 3 (oks 14 ++ .answered (.err someErr) :: [])).flags.busy = true ∧
      (answeredAt 3 (oks 14 ++ .answered (.err someErr) :: [])).rst = [] ∧
      (answeredAt 3 (oks 14 ++ .answered (.err someErr) :: [])).widx.toNat + 14 < 18 ∧
      (answeredAt 3 (oks 14 ++ .answered (.err someErr) :: [])).rsps = oks 14 ++ .answered (.err someErr) :: [] :=
  ⟨inv_with_rsps waitingAt3_inv _, by decide, by decide, by decide, by decide⟩
/-- No answer to write 3 at this look (`j` = 0), in both forms. -/
theorem witness_WaitingCommandWaitsAgain :
    ((answeredAt 3 []).Inv ∧ (answeredAt 3 []).flags.busy = true ∧ (answeredAt 3 []).rst = [] ∧
        (answeredAt 3 []).widx.toNat + 0 < 18 ∧ (answeredAt 3 []).rsps = oks 0 ++ []) ∧
      ((answeredAt 3 [.silent]).Inv ∧ (answeredAt 3 [.silent]).flags.busy = true ∧ (answeredAt 3 [.silent]).rst = [] ∧
        (answeredAt 3 [.silent]).widx.toNat + 0 < 18 ∧ (answeredAt 3 [.silent]).rsps = oks 0 ++ [.silent] ∧
        [BusRsp.silent].head? = some .silent) :=
  ⟨⟨inv_with_rsps waitingAt3_inv _, by decide, by decide, by decide, by decide⟩,
    ⟨inv_with_rsps waitingAt3_inv _, by decide, by decide, by decide, by decide, by decide⟩⟩
/-- Writes 3 to 16 answered, write 17 not. -/
theorem witness_WaitingCommandWaitsAgain_last :
    (answeredAt 3 (oks 14 ++ [.silent])).Inv ∧ (answeredAt 3 (oks 14 ++ [.silent])).flags.busy = true ∧
      (answeredAt 3 (oks 14 ++ [.silent])).rst = [] ∧ (answeredAt 3 (oks 14 ++ [.silent])).widx.toNat + 14 < 18 ∧
      (answeredAt 3 (oks 14 ++ [.silent])).rsps = oks 14 ++ [.silent] ∧
      (after (step (answeredAt 3 (oks 14 ++ [.silent])))).busReq = some 0x104F#16 :=
  ⟨inv_with_rsps waitingAt3_inv _, by decide, by decide, by decide, by decide, by decide⟩
theorem witness_SetFrequencyReadsNoStaleRegister :
    (built 0x60 25000000 (oks 3)).flags.busy = false ∧ (built 0x60 25000000 (oks 3)).cfg.constructed = true ∧
      (4294967295 : Word32) ≠ 0 := by decide
theorem witness_PlanResult :
    let s := { built 0x60 1 [] with dp := { Datapath.reset with tf := 4294967295 } }
    s.dp.tf ≠ 0 ∧ s.cfg.refFreq ≠ 0 ∧ s.params.numArith = .byRule := by decide
/-- The edge of d = 0. -/
theorem witness_Divider : 1 ≤ 450000001 ∧ planDivider 450000001 = 0 ∧ planDivider 450000000 = 2 := by decide
/-- The largest reference that overflows, and the next one (T2). -/
theorem witness_Multiplier :
    255 < planPll 225000000 / 3515625 ∧ ¬ 255 < planPll 225000000 / 3515626 := by decide
theorem witness_Num : (3515625 - 1 : Nat) < 3515625 ∧ numExact 3515624 3515625 = 1048574 := by decide
theorem witness_ExactDomain :
    (438597 ≤ 438597 ∧ 438597 ≤ 225000000 ∧ 3515626 ≤ 3515626 ∧ 3515626 ≤ 112500000) ∧
      planDivider 438597 = 2050 ∧ planDivider 225000000 = 4 := by decide
theorem witness_EncPllResult :
    let s := { State.reset with dp := { Datapath.reset with den := 1048575 } }
    s.dp.den ≠ 0 ∧ s.params.encPll = .byRule := by decide
theorem witness_PllTriple : 4 ≤ (4 : Byte).toNat ∧ (1048574 : Word32).toNat ≤ 1048574 := by decide
theorem witness_EncMsResult : State.reset.params.encMs = .byRule := rfl
theorem witness_MultisynthBlock : 2050 % 2 = 0 ∧ 4 ≤ 2050 ∧ 2050 ≤ 2050 := by decide
theorem witness_Unpack :
    (0x3FFFF : Word32).toNat < 2 ^ 18 ∧ (0xFFFFF : Word32).toNat < 2 ^ 20 ∧ (0xFC : Byte).toNat % 4 = 0 := by decide
/-- The four things the response port can show, for every `IsBusWrite`. -/
theorem witness_IsBusWrite :
    (built 0x60 25000000 [.answered .ok]).rsps = .answered .ok :: [] ∧
      (built 0x60 25000000 [.answered (.err someErr)]).rsps = .answered (.err someErr) :: [] ∧
      (built 0x60 25000000 [.silent]).rsps = .silent :: [] ∧ (built 0x60 25000000 []).rsps = [] := by decide
theorem witness_EncodeAndWriteCompletes : (holding 256 0 1 (oks 8 ++ [.silent])).rsps = oks 8 ++ [.silent] := by decide
theorem witness_EncodeAndWriteAborts :
    (holding 256 0 1 (oks 0 ++ .answered (.err someErr) :: [])).rsps = oks 0 ++ .answered (.err someErr) :: [] ∧
      (holding 256 0 1 (oks 7 ++ .answered (.err someErr) :: [])).rsps = oks 7 ++ .answered (.err someErr) :: [] := by decide
/-- The first and the last write of the block not answered; no look left and a silent look. -/
theorem witness_EncodeAndWriteWaits :
    (holding 256 0 1 (oks 0 ++ [])).rsps = oks 0 ++ [] ∧
      ((holding 256 0 1 (oks 7 ++ [.silent])).rsps = oks 7 ++ [.silent] ∧ [BusRsp.silent].head? = some .silent) := by
  decide

/-- A block that waits inside a lone ENCODE_AND_WRITE at offset `k`, with the answers to come. -/
def blockAt (k : Nat) (l : List BusRsp) : State :=
  { after (exec (.encodeAndWrite .ms2 0) (holding 256 0 1 (oks k))) with rsps := l }

/-- What WaitingBlockGoesOn asks of the state, with `k` = 0 and `k` = 7. -/
theorem witness_WaitingBlock :
    let held (k : Nat) (s : State) : Prop :=
      s.rst = [] ∧ s.flags.busy = false ∧ s.inBlock = true ∧ s.dp.base = blockBase .ms2 ∧
        s.dp.off = BitVec.ofNat 4 k ∧
        s.busReq = ((blockWrites (blockBase .ms2) s.buf)[k]?).map (fun w => busWord w.1 w.2)
    held 0 (blockAt 0 []) ∧ held 7 (blockAt 7 []) := by decide
/-- Its three clauses at the ends of their ranges. -/
theorem witness_WaitingBlock_answers :
    ((blockAt 0 (oks 8)).rsps = oks (8 - 0) ++ [] ∧ (blockAt 7 (oks 1)).rsps = oks (8 - 7) ++ []) ∧
      ((blockAt 0 (oks 7 ++ .answered (.err someErr) :: [])).rsps = oks 7 ++ .answered (.err someErr) :: [] ∧
        (blockAt 7 [.answered (.err someErr)]).rsps = oks 0 ++ .answered (.err someErr) :: []) ∧
      ((blockAt 0 (oks 7 ++ [.silent])).rsps = oks 7 ++ [.silent] ∧ (blockAt 7 []).rsps = oks 0 ++ []) := by decide
/-- A waiting state that meets the invariant, with the outcome of its step: write 3 is answered with an error. -/
theorem witness_StepKeepsTheInvariant :
    let s := { waitingAt 3 with rsps := [.answered (.err someErr)] }
    s.Inv ∧ s.traceLegal ∧ step s = .next (after (step s)) ∧ (after (step s)).seq = .failed :=
  ⟨inv_with_rsps waitingAt3_inv _, ⟨[], by decide⟩, rfl, by decide⟩
/-- A block that waits at offset 7 with a lone write behind it; its step keeps the request. -/
theorem witness_BlockLoop :
    let s := { blockAt 7 [.silent] with uop := some 0x1AFF06#24 }
    s.loopLegal ∧ s.inBlock = true ∧ step s = .next (after (step s)) ∧ (after (step s)).busReq = s.busReq :=
  ⟨fun _ => by decide, by decide, rfl, by decide⟩
theorem witness_Configuration :
    (waitingAt 3).cfg.constructed = true ∧ (waitingAt 3).rst.head? ≠ some true ∧
      step (waitingAt 3) = .next (after (step (waitingAt 3))) :=
  ⟨by decide, by decide, rfl⟩
/-- A step that adds two entries to the trace, and a reset, which keeps it. -/
theorem witness_TraceOnlyGrows :
    (step (answeredAt 3 (oks 2)) = .next (after (step (answeredAt 3 (oks 2)))) ∧
        (answeredAt 3 (oks 2)).trace.length = 3 ∧ (after (step (answeredAt 3 (oks 2)))).trace.length = 5) ∧
      (after (step { waitingAt 3 with rst := [true] })).trace = (waitingAt 3).trace :=
  ⟨⟨rfl, by decide, by decide⟩, by decide⟩
theorem witness_EveryIssuedWrite :
    let s := { waitingAt 3 with rsps := oks 2 }
    s.Inv ∧ step s = .next (after (step s)) ∧ (after (step s)).trace.length = 5 :=
  ⟨inv_with_rsps waitingAt3_inv _, rfl, by decide⟩
theorem witness_SuccessiveCommands :
    exec (.setFrequency 14000000) (built 0x60 25000000 (oks 3)) = .next (waitingAt 3) := rfl
theorem witness_DeviceHolds :
    State.reset.deviceAgrees ∧ State.reset.rst.head? ≠ some true ∧
      step { State.reset with rsps := [.silent] } = .next { State.reset with rsps := [.silent] } :=
  ⟨fun _ _ _ h => absurd h (Option.some_ne_none _).symm, by decide, rfl⟩
/-- After three writes the last one answered is what register 28 holds. -/
theorem witness_DeviceHolds_written :
    (lastWrite 0x60 28 (waitingAt 3).trace).map (fun e => (e.val, e.answer)) = some (0x00, .ok) ∧
      (waitingAt 3).devReg 0x60 28 = some 0x00 := by decide
theorem witness_HostDriven : (waitingAt 3).uop = none := by decide

end Sys2Proof.Tests
end

section
/-! SUPPORT. What is known of an operation's outcome may be weakened; every change of the flags leaves them consistent
(R17). -/

namespace Sys2Proof.Machine

open Sys2Proof.Config

theorem Progress.Leaves.mono {p : Progress} {C C' Q Q' : State → Prop} (h : p.Leaves C Q) (hC : ∀ s, C s → C' s)
    (hQ : ∀ s, Q s → Q' s) : p.Leaves C' Q' := by
  cases p with
  | completed s => exact hC s h
  | raised s => exact hQ s h
  | waiting s => exact hQ s h

theorem Flags.consistent_reset : Flags.reset.consistent := by
  simp [Flags.consistent, Flags.reset]

theorem Flags.consistent_accepted (f : Flags) : f.accepted.consistent := by
  simp [Flags.consistent]

theorem Flags.consistent_succeeded (f : Flags) : f.succeeded.consistent := by
  simp [Flags.consistent]

theorem Flags.consistent_transportFailed (f : Flags) (e : ErrT) : (f.transportFailed e).consistent := by
  simp [Flags.consistent]

/-- A refusal keeps the flags consistent when its code is one of the three of 60_exceptions.md R122 to R125. -/
theorem Flags.consistent_refused {f : Flags} {code : Status} (hb : f.busy = false)
    (hc : code = .domain ∨ code = .notReady ∨ code = .illegal) : (f.refused code).consistent := by
  rcases hc with rfl | rfl | rfl <;> simp [Flags.consistent, hb]

end Sys2Proof.Machine
end

section
/-! SUPPORT. The microprogram of R103 by write number: its two block writes byte by byte, and the position (R16) that
goes with each write. -/

namespace Sys2Proof.Machine

open Sys2Proof.Config

/-- The datapaths differ at most in the registers that the encoders and the block writes write, none of which the plan
or the microprogram depends on. -/
def samePlan (x y : Datapath) : Prop :=
  y = { x with p1 := y.p1, p2 := y.p2, p3 := y.p3, base := y.base, extra := y.extra, off := y.off }

/-- The microprogram of a command does not change while the plan stays. -/
theorem micro_eq_of_samePlan {s s' : State} (hp : s'.params = s.params) (hx : samePlan s.dp s'.dp) :
    s'.micro = s.micro := by
  unfold State.micro pllTripleOf msTripleOf
  rw [hp, hx]

/-- The microprogram has 18 writes (R103). -/
theorem lt_of_micro_getElem? {s : State} {n : Nat} {w : Byte × Byte} (hw : s.micro[n]? = some w) : n < 18 :=
  (List.getElem?_eq_some_iff.mp hw).1

/-- Write `k` of the writes from offset `j` on goes to offset `j + k`. -/
theorem writesFrom_getElem? (base : Byte) (l : List Byte) (j k : Nat) :
    (writesFrom base j l)[k]? = l[k]?.map (fun v => (base + BitVec.ofNat 8 (j + k), v)) := by
  induction l generalizing j k with
  | nil => rfl
  | cons v l ih =>
    cases k with
    | zero => rfl
    | succ k => simpa [writesFrom, Nat.add_assoc, Nat.add_comm 1] using ih (j + 1) k

theorem blockWrites_eq_writesFrom (base : Byte) (b : Buffer) : blockWrites base b = writesFrom base 0 b.toList := by
  simp [blockWrites, writesFrom, Buffer.toList]

/-- The bytes of a block write are the bytes of the buffer. -/
theorem blockWrites_map_snd (base : Byte) (b : Buffer) : (blockWrites base b).map Prod.snd = b.toList := rfl

/-- The two block writes of a command, each with the number of its first write (44_sequencer.md R103). -/
inductive CommandBlock : BlockId → Nat → Prop where
  | pllA : CommandBlock .pllA 0
  | ms0 : CommandBlock .ms0 8

/-- The eight bytes of the block write that begins at write `start`. -/
def State.microBytes (s : State) (start : Nat) : List Byte := ((s.micro.drop start).take 8).map Prod.snd

/-- R103: the first eight writes are the block write of the PLL triple. -/
theorem micro_pllA (s : State) :
    (s.micro.drop 0).take 8 =
      blockWrites 26 (packBytes (pllTripleOf s.params s.dp).p1 (pllTripleOf s.params s.dp).p2
        (pllTripleOf s.params s.dp).p3 0) := by
  rw [State.micro, microprogram_eq]
  rfl

/-- R103: the next eight writes are the block write of the multisynth triple. -/
theorem micro_ms0 (s : State) :
    (s.micro.drop 8).take 8 =
      blockWrites 42 (packBytes (msTripleOf s.params s.dp).p1 (msTripleOf s.params s.dp).p2
        (msTripleOf s.params s.dp).p3 0) := by
  rw [State.micro, microprogram_eq]
  rfl

theorem CommandBlock.micro_slice {blk : BlockId} {start : Nat} (hb : CommandBlock blk start) (s : State) :
    ∃ b, (s.micro.drop start).take 8 = blockWrites (blockBase blk) b := by
  cases hb with
  | pllA => exact ⟨_, micro_pllA s⟩
  | ms0 => exact ⟨_, micro_ms0 s⟩

/-- Inside a block write of the command, write number `start + k` sends byte `k` to the block's base plus `k`. -/
theorem CommandBlock.micro_getElem? {blk : BlockId} {start k : Nat} (hb : CommandBlock blk start) (s : State)
    (hk : k < 8) :
    s.micro[start + k]? = (s.microBytes start)[k]?.map (fun v => (blockBase blk + BitVec.ofNat 8 k, v)) := by
  obtain ⟨b, hslice⟩ := hb.micro_slice s
  calc s.micro[start + k]?
      = ((s.micro.drop start).take 8)[k]? := by rw [List.getElem?_take_of_lt hk, List.getElem?_drop]
    _ = (writesFrom (blockBase blk) 0 b.toList)[k]? := by rw [hslice, blockWrites_eq_writesFrom]
    _ = b.toList[k]?.map (fun v => (blockBase blk + BitVec.ofNat 8 k, v)) := by
        rw [writesFrom_getElem?, Nat.zero_add]
    _ = _ := by rw [State.microBytes, hslice, blockWrites_map_snd]

/-- SEQ_STATE stays the same during a block write of the command. -/
theorem CommandBlock.seqWhileIssued_eq {blk : BlockId} {start k : Nat} (hb : CommandBlock blk start) (hk : k < 8) :
    seqWhileIssued (start + k) = seqWhileIssued start := by
  cases hb with
  | pllA => simp [seqWhileIssued, hk]
  | ms0 => simp [seqWhileIssued, show 8 + k < 16 by omega]

/-- The position while write `n` of a command is outstanding (R16, R103). -/
theorem positionLegal_of_issuing {s : State} (hn : s.widx.toNat < 18) (hseq : s.seq = seqWhileIssued s.widx.toNat)
    (hc : s.cfg.constructed = true) (hb : s.flags.busy = true) : s.positionLegal := by
  have widx_eq : ∀ m, m < 32 → s.widx.toNat = m → s.widx = BitVec.ofNat 5 m := fun m hm h =>
    BitVec.eq_of_toNat_eq (by rw [BitVec.toNat_ofNat, h]; omega)
  refine ⟨fun h => absurd (hc.symm.trans h) (by decide), ?_⟩
  rw [hseq]
  unfold seqWhileIssued
  split_ifs with h8 h16 h
  · exact ⟨by omega, hb⟩
  · exact ⟨by omega, by omega, hb⟩
  · exact ⟨widx_eq 16 (by decide) h, hb⟩
  · exact ⟨widx_eq 17 (by decide) (by omega), hb⟩

/-- With BUSY = 1 a write of the microprogram is outstanding, and SEQ_STATE is that of its number (R103). -/
theorem State.positionLegal.issuing {s : State} (h : s.positionLegal) (hb : s.flags.busy = true) :
    s.widx.toNat < 18 ∧ s.seq = seqWhileIssued s.widx.toNat := by
  obtain ⟨-, hpos⟩ := h
  cases hs : s.seq <;> simp only [hs] at hpos
  case idle | clockEnabled | failed => simp [hb] at hpos
  case computedParameters => exact ⟨by omega, by simp [seqWhileIssued, show s.widx.toNat < 8 by omega]⟩
  case pllProgrammed =>
    exact ⟨by omega,
      by simp [seqWhileIssued, show ¬ s.widx.toNat < 8 by omega, show s.widx.toNat < 16 by omega]⟩
  case multisynthProgrammed => simp [hpos, seqWhileIssued]
  case pllReset => simp [hpos, seqWhileIssued]

/-- Outside a parameter block the bookkeeping of a block write is empty. -/
theorem blockLegal_of_closed {s : State} (hseq : s.seq.inBlockWrite = false) (hi : s.inBlock = false) :
    s.blockLegal :=
  ⟨hi.trans hseq.symm, fun h => by simp [h, SeqState.inBlockWrite] at hseq,
    fun h => by simp [h, SeqState.inBlockWrite] at hseq⟩

end Sys2Proof.Machine
end

section
/-! SUPPORT. A SET_FREQUENCY under way: what holds when its first `n` writes are answered `Ok`, and what each answer
to the next write makes of it. -/

namespace Sys2Proof.Machine

open Sys2Proof.Config

/-- What every step keeps of the machine driven from its host port. -/
def State.Legal (s : State) : Prop := s.Inv ∧ s.traceLegal

theorem State.Legal.inv {s : State} (h : s.Legal) : s.Inv := h.1

/-- A SET_FREQUENCY is being executed, its plan is made and its first `n` writes are answered `Ok` (R39, R102, R103). -/
structure Underway (n : Nat) (s : State) : Prop where
  uop : s.uop = none
  dev : s.dev.wf = true
  cfg : s.cfg.legal
  constructed : s.cfg.constructed = true
  flags : s.flags.consistent
  busy : s.flags.busy = true
  planned : planDatapath s.params.numArith s.cfg.refFreq s.dp = s.dp
  widx : s.widx.toNat = n
  trace : ∃ before, s.trace = before ++ (s.micro.take n).map (okEvent s.cfg.devAddr)

namespace Underway

variable {n : Nat} {s : State} {reg val : Byte}

/-- The operations between two writes change only registers on which the plan, the flags and the trace do not depend. -/
theorem bookkeeping (h : Underway n s) {x : Datapath} (hx : samePlan s.dp x) (b : Buffer) (q : SeqState) (i : Bool)
    (rs : List BusRsp) : Underway n { s with dp := x, buf := b, seq := q, inBlock := i, rsps := rs } where
  uop := h.uop
  dev := h.dev
  cfg := h.cfg
  constructed := h.constructed
  flags := h.flags
  busy := h.busy
  planned := by
    show planDatapath s.params.numArith s.cfg.refFreq x = x
    rw [hx]
    exact planDatapath_keep h.planned _ _ _ _ _ _
  widx := h.widx
  trace := by
    obtain ⟨before, ht⟩ := h.trace
    have hm : State.micro { s with dp := x, buf := b, seq := q, inBlock := i, rsps := rs } = s.micro :=
      micro_eq_of_samePlan (s := s) rfl hx
    exact ⟨before, by rw [hm]; exact ht⟩

theorem withRsps (h : Underway n s) (rs : List BusRsp) : Underway n { s with rsps := rs } :=
  h.bookkeeping (x := s.dp) rfl s.buf s.seq s.inBlock rs

/-- The next write of the microprogram, answered `Ok` (R33). -/
theorem after_answerOk (h : Underway n s) (hw : s.micro[n]? = some (reg, val)) :
    Underway (n + 1) (answerOk reg val s) where
  uop := h.uop
  dev := answerOk_dev_wf _ _ _ h.dev
  cfg := h.cfg
  constructed := h.constructed
  flags := h.flags
  busy := h.busy
  planned := h.planned
  widx := by
    have hn := lt_of_micro_getElem? hw
    have := h.widx
    rw [answerOk_widx, BitVec.toNat_add_of_lt] <;> simp <;> omega
  trace := by
    obtain ⟨before, ht⟩ := h.trace
    refine ⟨before, ?_⟩
    show s.trace ++ [_] = before ++ (s.micro.take (n + 1)).map (okEvent s.cfg.devAddr)
    simp [ht, List.take_add_one, hw, okEvent]

/-- The next write of the microprogram, answered with an error (R36, R121). -/
theorem answerErr_legal (h : Underway n s) (hw : s.micro[n]? = some (reg, val)) (e : ErrT) :
    (answerErr reg val e s).Legal := by
  have hn := lt_of_micro_getElem? hw
  refine ⟨⟨h.uop, answerErr_dev_wf _ _ _ _ h.dev, h.cfg, s.flags.consistent_transportFailed e, ?position, ?outstanding,
    blockLegal_of_closed rfl rfl⟩, ?trace⟩
  case position =>
    refine ⟨fun hc => absurd (h.constructed.symm.trans hc) (by decide), ?_, rfl⟩
    show s.widx.toNat ≤ 17
    rw [h.widx]
    omega
  case outstanding => exact rfl
  case trace =>
    obtain ⟨before, ht⟩ := h.trace
    refine ⟨before, e, ?_, fun _ => rfl⟩
    have herr : (s.micro.drop n).take 1 = [(reg, val)] := by
      rw [List.take_one, List.head?_drop, hw]
      rfl
    show s.trace ++ [_] = before ++ (s.micro.take s.widx.toNat).map (okEvent s.cfg.devAddr) ++
      ((s.micro.drop s.widx.toNat).take 1).map (errEvent s.cfg.devAddr e)
    rw [h.widx, herr, ht]
    rfl

/-- The next write of the microprogram, not answered yet (R32). -/
theorem holdRequest_legal (h : Underway n s) (hw : s.micro[n]? = some (reg, val)) (hseq : s.seq = seqWhileIssued n)
    (hblock : s.blockLegal) : (holdRequest reg val s).Legal := by
  have hn := lt_of_micro_getElem? hw
  obtain ⟨before, ht⟩ := h.trace
  have hwidx := h.widx
  subst hwidx
  refine ⟨⟨h.uop, h.dev, h.cfg, h.flags, positionLegal_of_issuing hn hseq h.constructed h.busy, ?outstanding, hblock⟩,
    ?trace⟩
  case outstanding =>
    unfold State.outstandingLegal
    rw [holdRequest_flags, if_pos h.busy]
    refine ⟨h.constructed, h.planned, ?_⟩
    show some _ = (s.micro[s.widx.toNat]?).map _
    rw [hw]
    rfl
  case trace =>
    unfold State.traceLegal
    rw [holdRequest_seq, hseq]
    unfold seqWhileIssued
    split_ifs <;> exact ⟨before, ht⟩

end Underway

/-- Write `n`, issued in `s`, has been answered `Ok`, and `s'` is the state it left. -/
structure WriteDone (n : Nat) (s s' : State) : Prop where
  underway : Underway (n + 1) s'
  core : sameCore s s'
  params : s'.params = s.params
  quiet : s'.busReq = none

/-- The next write of the microprogram, whatever the transport answers. -/
theorem Underway.busWrite_leaves {n : Nat} {s : State} {reg val : Byte} (h : Underway n s)
    (hw : s.micro[n]? = some (reg, val)) (hseq : s.seq = seqWhileIssued n) (hblock : s.blockLegal) :
    (busWrite reg val s).Leaves (WriteDone n s) State.Legal :=
  Machine.busWrite_leaves
    (fun rest => ⟨(h.withRsps rest).after_answerOk hw, ⟨rfl, rfl, rfl, rfl, rfl⟩, rfl, rfl⟩)
    (fun e rest => (h.withRsps rest).answerErr_legal hw e)
    (fun rest => (h.withRsps rest).holdRequest_legal hw hseq hblock)

/-- `n` writes of the command are answered and the operations of SEQ_STATE `q` have completed, or those of the SEQ_STATE
before it and `q` has just been entered. -/
structure AtBorder (n : Nat) (q : SeqState) (s : State) : Prop where
  underway : Underway n s
  seq : s.seq = q
  inBlock : s.inBlock = false

theorem AtBorder.enter {n : Nat} {q q' : SeqState} {s : State} (h : AtBorder n q s)
    (ha : advance s = { s with seq := q' }) : AtBorder n q' (advance s) := by
  rw [ha]
  exact ⟨h.underway.bookkeeping (x := s.dp) rfl s.buf q' s.inBlock s.rsps, rfl, h.inBlock⟩

theorem WriteDone.atBorder {n : Nat} {q : SeqState} {s s' : State} (h : WriteDone n s s') (hseq : s.seq = q)
    (hi : s.inBlock = false) : AtBorder (n + 1) q s' := by
  obtain ⟨-, -, hs, -, hb⟩ := h.core
  exact ⟨h.underway, hs.trans hseq, hb.trans hi⟩

end Sys2Proof.Machine
end

section
/-! SUPPORT. The command from each of its borders on: the two block writes (R92), the operations of each SEQ_STATE
(R101, R102), and how it goes on after the answer to a write that had to wait. -/

namespace Sys2Proof.Machine

open Sys2Proof.Config

/-- The bookkeeping inside the block write of the command that begins at write `start` (R13, R15, R92): the loop stands at
x[OFF], which is 8 when no byte is left. -/
structure InBlockWrite (blk : BlockId) (start : Nat) (s : State) : Prop where
  inBlock : s.inBlock = true
  seq : s.seq = seqWhileIssued start
  base : s.dp.base = blockBase blk
  off : start + s.dp.off.toNat = s.widx.toNat
  off_le : s.dp.off.toNat ≤ 8
  bytes : s.buf.toList = s.microBytes start

theorem State.blockLegal.inPllA {s : State} (h : s.blockLegal) (hseq : s.seq = .computedParameters)
    (hw : s.widx.toNat < 8) : InBlockWrite .pllA 0 s := by
  obtain ⟨hi, hpll, -⟩ := h
  obtain ⟨hbase, hoff, hbytes⟩ := hpll hseq
  exact ⟨by rw [hi, hseq]; rfl, hseq, hbase, by omega, by omega, hbytes⟩

theorem State.blockLegal.inMs0 {s : State} (h : s.blockLegal) (hseq : s.seq = .pllProgrammed)
    (hw : s.widx.toNat < 16) : InBlockWrite .ms0 8 s := by
  obtain ⟨hi, -, hms⟩ := h
  obtain ⟨hbase, hoff, hbytes⟩ := hms hseq
  exact ⟨by rw [hi, hseq]; rfl, hseq, hbase, by omega, by omega, hbytes⟩

namespace InBlockWrite

variable {blk : BlockId} {start n : Nat} {s s' : State}

theorem blockLegal (h : InBlockWrite blk start s) (hb : CommandBlock blk start) : s.blockLegal := by
  have hoff := h.off
  cases hb with
  | pllA =>
    have hseq : s.seq = .computedParameters := h.seq
    exact ⟨by rw [h.inBlock, hseq]; rfl, fun _ => ⟨h.base, by omega, h.bytes⟩, fun hs => by simp [hseq] at hs⟩
  | ms0 =>
    have hseq : s.seq = .pllProgrammed := h.seq
    exact ⟨by rw [h.inBlock, hseq]; rfl, fun hs => by simp [hseq] at hs, fun _ => ⟨h.base, by omega, h.bytes⟩⟩

/-- The byte at x[OFF], sent to register x[BASE] + x[OFF], is the next write of the microprogram. -/
theorem nextWrite (h : InBlockWrite blk start s) (hb : CommandBlock blk start) {v : Byte}
    (hv : s.buf.toList[s.dp.off.toNat]? = some v) :
    s.micro[s.widx.toNat]? = some (s.dp.base + s.dp.off.setWidth 8, v) := by
  have hlt : s.dp.off.toNat < 8 := (List.getElem?_eq_some_iff.mp hv).1
  have hwide : s.dp.off.setWidth 8 = BitVec.ofNat 8 s.dp.off.toNat := BitVec.eq_of_toNat_eq (by simp)
  rw [← h.off, hb.micro_getElem? s hlt, ← h.bytes, hv, h.base, hwide]
  rfl

/-- After the answer to its write the loop goes on at the next offset (R92). -/
theorem next (h : InBlockWrite blk start s) (hlt : s.dp.off.toNat < 8) (hn : s.widx.toNat = n)
    (hd : WriteDone n s s') : InBlockWrite blk start (stepOff s') := by
  obtain ⟨hdp, hbuf, hseq, -, hin⟩ := hd.core
  have hw := hd.underway.widx
  have hoff := h.off
  have hstep : (s'.dp.off + 1).toNat = s.dp.off.toNat + 1 := by
    rw [hdp, BitVec.toNat_add_of_lt] <;> simp; omega
  refine ⟨hin.trans h.inBlock, hseq.trans h.seq, ?base, ?off, ?off_le, ?bytes⟩
  case base => exact (congrArg Datapath.base hdp).trans h.base
  case off =>
    show start + (s'.dp.off + 1).toNat = s'.widx.toNat
    omega
  case off_le =>
    show (s'.dp.off + 1).toNat ≤ 8
    omega
  case bytes =>
    have hmicro : (stepOff s').micro = s.micro :=
      micro_eq_of_samePlan (s := s) (s' := stepOff s') hd.params (by rw [stepOff_dp, hdp]; rfl)
    rw [State.microBytes, hmicro]
    exact (congrArg Buffer.toList hbuf).trans h.bytes

end InBlockWrite

/-- The rest of a block write of the command, from x[OFF] on. -/
theorem writeBytes_leaves {blk : BlockId} {start : Nat} (hb : CommandBlock blk start) (l : List Byte) :
    ∀ {n : Nat} {s : State}, Underway n s → InBlockWrite blk start s → s.buf.toList.drop s.dp.off.toNat = l →
      (writeBytes l s).Leaves (AtBorder (start + 8) (seqWhileIssued start)) State.Legal := by
  induction l with
  | nil =>
    intro n s hu h hl
    have hoff : 8 ≤ s.dp.off.toNat := List.drop_eq_nil_iff.mp hl
    obtain rfl : n = start + 8 := by
      have := hu.widx
      have := h.off
      have := h.off_le
      omega
    exact ⟨hu.bookkeeping (x := s.dp) rfl s.buf s.seq false s.rsps, h.seq, rfl⟩
  | cons v l ih =>
    intro n s hu h hl
    obtain rfl := hu.widx
    have hv : s.buf.toList[s.dp.off.toNat]? = some v := by rw [← List.head?_drop, hl]; rfl
    have hlt : s.dp.off.toNat < 8 := (List.getElem?_eq_some_iff.mp hv).1
    have hseq : s.seq = seqWhileIssued s.widx.toNat := by rw [← h.off, hb.seqWhileIssued_eq hlt]; exact h.seq
    rw [writeBytes_cons]
    refine (hu.busWrite_leaves (h.nextWrite hb hv) hseq (h.blockLegal hb)).andThen fun s1 hd => ?_
    have hnext := h.next hlt rfl hd
    refine ih (hd.underway.bookkeeping (x := (stepOff s1).dp) rfl s1.buf s1.seq s1.inBlock s1.rsps) hnext ?_
    obtain ⟨-, hbuf, -⟩ := hd.core
    have hoff : (stepOff s1).dp.off.toNat = s.dp.off.toNat + 1 := by
      have : (stepOff s1).widx.toNat = s.widx.toNat + 1 := hd.underway.widx
      have := h.off
      have := hnext.off
      omega
    calc (stepOff s1).buf.toList.drop (stepOff s1).dp.off.toNat
        = s.buf.toList.drop (s.dp.off.toNat + 1) := by rw [hoff, stepOff_buf, hbuf]
      _ = l := by rw [← List.tail_drop, hl]; rfl

/-- A block write of the command, from its preparation on (R92). -/
theorem encodeAndWrite_leaves {blk : BlockId} {start : Nat} {s : State} (hb : CommandBlock blk start)
    (hu : Underway start s) (h : InBlockWrite blk start (prepareBlock blk 0 s)) :
    (encodeAndWrite blk 0 s).Leaves (AtBorder (start + 8) (seqWhileIssued start)) State.Legal :=
  writeBytes_leaves hb _
    (hu.bookkeeping (x := (prepareBlock blk 0 s).dp) rfl (prepareBlock blk 0 s).buf s.seq true s.rsps) h rfl

namespace AtBorder

variable {s : State}

/-- The last write of the command completes it (R101, R102). -/
theorem legal_of_completed (h : AtBorder 18 .pllReset s) (hq : s.busReq = none) : (advance s).Legal := by
  obtain ⟨hu, hseq, hin⟩ := h
  rw [advance_pllReset hseq]
  refine ⟨⟨hu.uop, hu.dev, hu.cfg, Flags.consistent_succeeded s.flags, ?position, hq, blockLegal_of_closed rfl hin⟩,
    ?trace⟩
  case position =>
    exact ⟨fun hc => absurd (hu.constructed.symm.trans hc) (by decide), BitVec.eq_of_toNat_eq hu.widx, rfl⟩
  case trace =>
    obtain ⟨before, ht⟩ := hu.trace
    refine ⟨before, ?_⟩
    show s.trace = before ++ (s.micro.take s.widx.toNat).map (okEvent s.cfg.devAddr)
    rw [hu.widx, ht]

theorem blockLegal {n : Nat} {q : SeqState} (h : AtBorder n q s) (hq : q.inBlockWrite = false) : s.blockLegal :=
  blockLegal_of_closed (by rw [h.seq, hq]) h.inBlock

theorem runFromPllReset_leaves (h : AtBorder 17 .pllReset s) :
    (runFromPllReset s).Leaves State.Legal State.Legal :=
  (h.underway.busWrite_leaves rfl h.seq (h.blockLegal rfl)).andThen
    fun _ hd => (hd.atBorder h.seq h.inBlock).legal_of_completed hd.quiet

theorem runFromMultisynth_leaves (h : AtBorder 16 .multisynthProgrammed s) :
    (runFromMultisynth s).Leaves State.Legal State.Legal :=
  (h.underway.busWrite_leaves rfl h.seq (h.blockLegal rfl)).andThen fun _ hd =>
    have hb := hd.atBorder h.seq h.inBlock
    (hb.enter (advance_multisynth hb.seq)).runFromPllReset_leaves

theorem runFromPllProgrammed_leaves (h : AtBorder 8 .pllProgrammed s) :
    (runFromPllProgrammed s).Leaves State.Legal State.Legal := by
  have hu : Underway 8 (encMs s) :=
    h.underway.bookkeeping (x := (encMs s).dp) rfl s.buf s.seq s.inBlock s.rsps
  have hblock : InBlockWrite .ms0 8 (prepareBlock .ms0 0 (encMs s)) := by
    refine ⟨rfl, h.seq, rfl, h.underway.widx.symm, Nat.zero_le 8, ?_⟩
    rw [State.microBytes, micro_ms0]
    rfl
  exact (encodeAndWrite_leaves .ms0 hu hblock).andThen fun _ hb =>
    (hb.enter (advance_pllProgrammed hb.seq)).runFromMultisynth_leaves

theorem runFromComputed_leaves (h : AtBorder 0 .computedParameters s) :
    (runFromComputed s).Leaves State.Legal State.Legal := by
  have hu : Underway 0 (encPll s) :=
    h.underway.bookkeeping (x := (encPll s).dp) rfl s.buf s.seq s.inBlock s.rsps
  have hblock : InBlockWrite .pllA 0 (prepareBlock .pllA 0 (encPll s)) := by
    refine ⟨rfl, h.seq, rfl, h.underway.widx.symm, Nat.zero_le 8, ?_⟩
    rw [State.microBytes, micro_pllA]
    rfl
  exact (encodeAndWrite_leaves .pllA hu hblock).andThen fun _ hb =>
    (hb.enter (advance_computed hb.seq)).runFromPllProgrammed_leaves

end AtBorder

theorem finishOperation_inBlock {s : State} (h : s.inBlock = true) :
    finishOperation s = writeBytes ((stepOff s).buf.toList.drop (stepOff s).dp.off.toNat) (stepOff s) := by
  simp only [finishOperation, h, if_true]

theorem finishOperation_closed {s : State} (h : s.inBlock = false) : finishOperation s = .completed s := by
  simp [finishOperation, h]

theorem finishCommand_idle {s : State} (h : s.flags.busy = false) : finishCommand s = .completed s := by
  simp [finishCommand, h]

theorem finishCommand_computed {s : State} (h : s.flags.busy = true) (hs : s.seq = .computedParameters) :
    finishCommand s = runFromPllProgrammed (advance s) := by
  simp [finishCommand, runSequence, advance_computed hs, h]

theorem finishCommand_pllProgrammed {s : State} (h : s.flags.busy = true) (hs : s.seq = .pllProgrammed) :
    finishCommand s = runFromMultisynth (advance s) := by
  simp [finishCommand, runSequence, advance_pllProgrammed hs, h]

theorem finishCommand_multisynth {s : State} (h : s.flags.busy = true) (hs : s.seq = .multisynthProgrammed) :
    finishCommand s = runFromPllReset (advance s) := by
  simp [finishCommand, runSequence, advance_multisynth hs, h]

theorem finishCommand_pllReset {s : State} (h : s.flags.busy = true) (hs : s.seq = .pllReset) :
    finishCommand s = .completed (advance s) := by
  simp [finishCommand, advance_pllReset hs, h]

namespace WriteDone

variable {n : Nat} {s s' : State}

/-- After an answer inside a block write of the command the rest of the block is written. -/
theorem finishOperation_leaves {blk : BlockId} {start : Nat} (hd : WriteDone n s s') (hb : CommandBlock blk start)
    (h : InBlockWrite blk start s) (hw : s.widx.toNat = n) (hn : n < start + 8) :
    (finishOperation s').Leaves (AtBorder (start + 8) (seqWhileIssued start)) State.Legal := by
  have hoff := h.off
  have hnext := h.next (by omega) hw hd
  rw [finishOperation_inBlock (s := s') hnext.inBlock]
  exact writeBytes_leaves hb _
    (hd.underway.bookkeeping (x := (stepOff s').dp) rfl s'.buf s'.seq s'.inBlock s'.rsps) hnext rfl

/-- What the sequencer does after write `n` is answered `Ok`: the rest of the operation and of the command
(R39, R101, R102). -/
theorem finish_leaves (hd : WriteDone n s s') (hw : s.widx.toNat = n) (hn : n < 18) (hseq : s.seq = seqWhileIssued n)
    (hblock : s.blockLegal) :
    ((finishOperation s').andThen finishCommand).Leaves State.Legal State.Legal := by
  have closed : ∀ q, s.seq = q → q.inBlockWrite = false →
      finishOperation s' = .completed s' ∧ AtBorder (n + 1) q s' := by
    rintro _ rfl hq
    obtain ⟨hin, -⟩ := hblock
    have hb := hd.atBorder rfl (hin.trans hq)
    exact ⟨finishOperation_closed hb.inBlock, hb⟩
  by_cases h8 : n < 8
  · have hs : s.seq = .computedParameters := by simp [hseq, seqWhileIssued, h8]
    refine (hd.finishOperation_leaves .pllA (hblock.inPllA hs (by omega)) hw (by omega)).andThen fun s2 hb => ?_
    rw [finishCommand_computed hb.underway.busy hb.seq]
    exact (hb.enter (advance_computed hb.seq)).runFromPllProgrammed_leaves
  · by_cases h16 : n < 16
    · have hs : s.seq = .pllProgrammed := by simp [hseq, seqWhileIssued, h8, h16]
      refine (hd.finishOperation_leaves .ms0 (hblock.inMs0 hs (by omega)) hw (by omega)).andThen fun s2 hb => ?_
      rw [finishCommand_pllProgrammed hb.underway.busy hb.seq]
      exact (hb.enter (advance_pllProgrammed hb.seq)).runFromMultisynth_leaves
    · by_cases h : n = 16
      · subst h
        obtain ⟨hop, hb⟩ := closed .multisynthProgrammed hseq rfl
        rw [hop, Progress.andThen_completed, finishCommand_multisynth hb.underway.busy hb.seq]
        exact (hb.enter (advance_multisynth hb.seq)).runFromPllReset_leaves
      · obtain rfl : n = 17 := by omega
        obtain ⟨hop, hb⟩ := closed .pllReset hseq rfl
        rw [hop, Progress.andThen_completed, finishCommand_pllReset hb.underway.busy hb.seq]
        exact hb.legal_of_completed hd.quiet

end WriteDone

end Sys2Proof.Machine
end

section
/-! SUPPORT. The invariant of the machine driven from its host port: what a step can do keeps it. -/

namespace Sys2Proof.Machine

open Sys2Proof.Config

theorem State.Inv.busReq_eq_none {s : State} (h : s.Inv) (hb : s.flags.busy = false) : s.busReq = none := by
  obtain ⟨-, -, -, -, -, hout, -⟩ := h
  simpa [State.outstandingLegal, hb] using hout

/-- With BUSY = 0 no block write is in progress (R102). -/
theorem State.Inv.closed_of_idle {s : State} (h : s.Inv) (hb : s.flags.busy = false) :
    s.seq.inBlockWrite = false ∧ s.inBlock = false := by
  obtain ⟨-, -, -, -, ⟨-, hpos⟩, -, hi, -⟩ := h
  have hq : s.seq.inBlockWrite = false := by
    cases hs : s.seq <;> simp [hs, hb, SeqState.inBlockWrite] at hpos ⊢
  exact ⟨hq, hi.trans hq⟩

/-- With BUSY = 1 write number WIDX of the microprogram is outstanding (R39, R103). -/
theorem State.Inv.outstanding {s : State} (h : s.Inv) (hb : s.flags.busy = true) :
    ∃ w, s.micro[s.widx.toNat]? = some w ∧ s.busReq = some (busWord w.1 w.2) := by
  obtain ⟨-, -, -, -, hpos, hout, -⟩ := h
  obtain ⟨hn, -⟩ := hpos.issuing hb
  obtain ⟨w, hw⟩ : ∃ w, s.micro[s.widx.toNat]? = some w := ⟨_, List.getElem?_eq_getElem hn⟩
  rw [State.outstandingLegal, if_pos hb] at hout
  obtain ⟨-, -, hreq⟩ := hout
  exact ⟨w, hw, by rw [hreq, hw]; rfl⟩

/-- A legal state with BUSY = 1 is that of a command under way. -/
theorem State.Legal.underway {s : State} (h : s.Legal) (hb : s.flags.busy = true) : Underway s.widx.toNat s := by
  obtain ⟨⟨huop, hdev, hcfg, hflags, hpos, hout, -⟩, htrace⟩ := h
  rw [State.outstandingLegal, if_pos hb] at hout
  obtain ⟨hc, hplan, -⟩ := hout
  refine ⟨huop, hdev, hcfg, hc, hflags, hb, hplan, rfl, ?_⟩
  obtain ⟨-, hseq⟩ := hpos.issuing hb
  rw [State.traceLegal, hseq] at htrace
  unfold seqWhileIssued at htrace
  split_ifs at htrace <;> exact htrace

/-- A state that meets the invariant waits for an answer or has nothing to go on with. -/
theorem State.Inv.resume_eq {s : State} (h : s.Inv) : resume s = s := by
  cases hb : s.flags.busy with
  | true =>
    obtain ⟨w, -, hreq⟩ := h.outstanding hb
    simp [resume, hreq]
  | false =>
    obtain ⟨-, hi⟩ := h.closed_of_idle hb
    simp [resume, h.busReq_eq_none hb, finishOperation_closed hi, finishCommand_idle hb]

theorem resume_answered {s : State} (h : s.busReq = none) :
    resume s = ((finishOperation s).andThen finishCommand).state := by
  simp [resume, h]

/-- Looking for the answer to the outstanding write, and going on, keeps the invariant. -/
theorem resume_busWrite_legal {s : State} {reg val : Byte} (h : s.Legal) (hb : s.flags.busy = true)
    (hw : s.micro[s.widx.toNat]? = some (reg, val)) : (resume (busWrite reg val s).state).Legal := by
  obtain ⟨-, -, -, -, hpos, -, hblock⟩ := h.inv
  obtain ⟨hn, hseq⟩ := hpos.issuing hb
  have hleaves := (h.underway hb).busWrite_leaves hw hseq hblock
  refine Progress.Leaves.state (C := fun s' => (resume s').Legal) (Q := fun s' => (resume s').Legal)
    (hleaves.mono (fun s1 hd => ?_) (fun s1 hl => ?_)) (fun _ hl => hl)
  · rw [resume_answered hd.quiet]
    exact (hd.finish_leaves rfl hn hseq hblock).state (fun _ hl => hl)
  · rw [hl.inv.resume_eq]
    exact hl

/-- A refused command changes no position and no trace, and the record of an earlier error goes with its STATUS (R123). -/
theorem refuseCommand_legal {s : State} {code : Status} (h : s.Legal) (hb : s.flags.busy = false)
    (hc : code = .domain ∨ code = .notReady ∨ code = .illegal) : (refuseCommand code s).Legal := by
  obtain ⟨⟨huop, hdev, hcfg, -, hpos, hout, hblock⟩, htrace⟩ := h
  refine ⟨⟨huop, hdev, hcfg, Flags.consistent_refused hb hc, hpos, hout, hblock⟩, ?_⟩
  unfold State.traceLegal at htrace ⊢
  rw [refuseCommand_seq]
  cases hs : s.seq <;> simp only [hs] at htrace ⊢
  case failed =>
    obtain ⟨before, e, ht, -⟩ := htrace
    refine ⟨before, e, ht, fun hst => ?_⟩
    rw [refuseCommand_flags, Flags.refused_status] at hst
    simp [hst] at hc
  all_goals exact htrace

theorem resolveDevAddr_eq (a : Bool) : resolveDevAddr a = 0x60 ∨ resolveDevAddr a = 0x61 := by
  cases a
  · exact .inl rfl
  · exact .inr rfl

theorem acceptConstruct_legal {s : State} (h : s.Legal) (hb : s.flags.busy = false)
    (hc : s.cfg.constructed = false) (a : Bool) {ref : Word32} (hr : ref ≠ 0) : (acceptConstruct a ref s).Legal := by
  have hq := h.inv.busReq_eq_none hb
  obtain ⟨-, hi⟩ := h.inv.closed_of_idle hb
  obtain ⟨⟨huop, hdev, -, -, ⟨hidle, hpos⟩, -, -⟩, -⟩ := h
  have hs : (acceptConstruct a ref s).seq = .idle := hidle hc
  rw [hidle hc] at hpos
  obtain ⟨hwidx, -⟩ := hpos
  refine ⟨⟨huop, hdev, fun _ => ⟨resolveDevAddr_eq a, hr⟩, s.flags.consistent_succeeded, ⟨fun _ => hs, ?position⟩, hq,
    blockLegal_of_closed (by rw [hs]; rfl) hi⟩, ?trace⟩
  case position =>
    rw [hs]
    exact ⟨hwidx, rfl⟩
  case trace =>
    rw [State.traceLegal, hs]
    trivial

theorem construct_legal {s : State} (h : s.Legal) (a : Bool) (ref : Word32) : (construct a ref s).Legal := by
  unfold construct
  split_ifs with hb hc hr
  · exact h
  · exact refuseCommand_legal h (by simpa using hb) (.inr (.inr rfl))
  · exact refuseCommand_legal h (by simpa using hb) (.inl rfl)
  · exact acceptConstruct_legal h (by simpa using hb) (by simpa using hc) a hr

/-- After acceptance and PLAN no write of the new command is issued yet (R101, R102). -/
theorem planned_atBorder {s : State} (h : s.Legal) (hb : s.flags.busy = false) (hc : s.cfg.constructed = true)
    (t : Word32) : AtBorder 0 .computedParameters (advance (plan (acceptSetFrequency t s))) := by
  obtain ⟨-, hi⟩ := h.inv.closed_of_idle hb
  obtain ⟨⟨huop, hdev, hcfg, -, -, -, -⟩, -⟩ := h
  exact ⟨⟨huop, hdev, hcfg, hc, s.flags.consistent_accepted, rfl, rfl, rfl, s.trace, by simp⟩, rfl, hi⟩

theorem setFrequency_legal {s : State} (h : s.Legal) (t : Word32) : (setFrequency t s).Legal := by
  unfold setFrequency
  split_ifs with hb hc ht
  · exact h
  · exact refuseCommand_legal h (by simpa using hb) (.inr (.inl rfl))
  · exact refuseCommand_legal h (by simpa using hb) (.inl rfl)
  · exact (planned_atBorder h (by simpa using hb) (by simpa using hc) t).runFromComputed_leaves.state (fun _ hl => hl)

/-- All that a presented command word can do. -/
theorem stepCommand_cases (w : CmdWord) (s : State) :
    stepCommand w s = .next (refuseCommand .illegal s) ∨ (∃ a ref, stepCommand w s = .next (construct a ref s)) ∨
      ∃ t, stepCommand w s = .next (setFrequency t s) := by
  unfold stepCommand decodeHost
  split
  case h_2 => exact .inl rfl
  case h_1 i hi =>
    split at hi
    · cases hi
      exact .inr (.inl ⟨_, _, rfl⟩)
    · split at hi
      · cases hi
      · cases hi
        exact .inr (.inr ⟨_, rfl⟩)
    · cases hi

theorem stepCommand_legal {s s' : State} {w : CmdWord} (h : s.Legal) (hb : s.flags.busy = false)
    (hs : stepCommand w s = .next s') : s'.Legal := by
  rcases stepCommand_cases w s with hc | ⟨a, ref, hc⟩ | ⟨t, hc⟩ <;>
    obtain rfl := Host.Outcome.next.inj (hc.symm.trans hs)
  · exact refuseCommand_legal h hb (.inr (.inr rfl))
  · exact construct_legal h a ref
  · exact setFrequency_legal h t

theorem stepRunning_legal {s s' : State} (h : s.Legal) (hs : stepRunning s = .next s') : s'.Legal := by
  rcases stepRunning_cases s with ⟨w, hq, hc⟩ | ⟨hq, hb, -⟩ | ⟨w, -, -, hu, -⟩ | ⟨w, rest, -, hb, -, -, hc⟩ |
    ⟨-, -, -, -, hc⟩
  · obtain rfl := Host.Outcome.next.inj (hc.symm.trans hs)
    have hb : s.flags.busy = true := by
      by_contra hb
      simp [h.inv.busReq_eq_none (by simpa using hb)] at hq
    obtain ⟨v, hv, hreq⟩ := h.inv.outstanding hb
    obtain rfl : busWord v.1 v.2 = w := Option.some.inj (hreq.symm.trans hq)
    rw [busWord_reg, busWord_val]
    exact resume_busWrite_legal h hb hv
  · obtain ⟨v, -, hreq⟩ := h.inv.outstanding hb
    simp [hreq] at hq
  · obtain ⟨⟨huop, -⟩, -⟩ := h
    simp [huop] at hu
  · exact stepCommand_legal (s := { s with cmds := rest }) h hb (hc.symm.trans hs)
  · obtain rfl := Host.Outcome.next.inj (hc.symm.trans hs)
    exact h

/-- The reset values meet the invariant, whatever the registers of the device hold (R140, R141). -/
theorem resetEvent_legal {s : State} (h : s.dev.wf = true) : (resetEvent s).Legal :=
  ⟨⟨rfl, resetEvent_dev_wf s h, fun hc => absurd hc Bool.false_ne_true, Flags.consistent_reset,
    ⟨fun _ => rfl, rfl, rfl⟩, rfl, blockLegal_of_closed rfl rfl⟩, trivial⟩

/-- Every step keeps the invariant: reset sets it up, and a running step is the look for the answer to the outstanding
write, the execution of a presented command, or nothing. -/
theorem step_legal {s s' : State} (h : s.Legal) (hs : step s = .next s') : s'.Legal := by
  by_cases hr : s.rst.head? = some true
  · obtain ⟨rest, hrst⟩ := List.head?_eq_some_iff.mp hr
    have hc : step s = .next (resetEvent { s with rst := rest }) := by simp [step, hrst]
    obtain rfl := Host.Outcome.next.inj (hc.symm.trans hs)
    obtain ⟨⟨-, hdev, -⟩, -⟩ := h
    exact resetEvent_legal hdev
  · rw [step_running hr] at hs
    exact stepRunning_legal (s := { s with rst := s.rst.tail }) h hs

/-- Settles O51: `step_legal`, by what is known of a command under way at each of its writes. -/
theorem stepKeepsTheInvariant : Obligations.StepKeepsTheInvariant := fun _ _ hinv htrace hs =>
  step_legal ⟨hinv, htrace⟩ hs

/-- Settles O50: the state after reset is what the reset event leaves of itself, and no block write is in progress. -/
theorem resetMeetsTheInvariant : Obligations.ResetMeetsTheInvariant := by
  have hlegal : State.reset.Legal := resetEvent_legal (s := State.reset) reset_dev_wf
  obtain ⟨hinv, htrace⟩ := hlegal
  exact ⟨hinv, htrace, fun hi => absurd hi Bool.false_ne_true⟩

end Sys2Proof.Machine
end

section
/-! SUPPORT. The configuration (R11, R12): CONSTRUCT writes it, once, and nothing else does. -/

namespace Sys2Proof.Machine

open Sys2Proof.Config

/-- A bus write keeps the configuration, so every operation made of bus writes does. -/
theorem closed_cfg (c : Cfg) : Closed (fun s => s.cfg = c) where
  bus _ _ _ h := busWrite_leaves (fun _ => h) (fun _ _ => h) (fun _ => h)
  ext _ _ h _ _ hcfg _ := hcfg.trans h

/-- The state an operation leaves has the configuration of the one it started in. -/
theorem Progress.Leaves.cfg_eq {p : Progress} {c : Cfg} (h : p.Leaves (fun s => s.cfg = c) (fun s => s.cfg = c)) :
    p.state.cfg = c :=
  h.state fun _ hs => hs

theorem busWrite_cfg (reg val : Byte) (s : State) : (busWrite reg val s).state.cfg = s.cfg :=
  ((closed_cfg s.cfg).bus reg val s rfl).cfg_eq

theorem setFrequency_cfg (t : Word32) (s : State) : (setFrequency t s).cfg = s.cfg := by
  unfold setFrequency
  split_ifs
  · rfl
  · rfl
  · rfl
  · exact ((closed_cfg s.cfg).keepsRunSequence (s := acceptSetFrequency t s) rfl).cfg_eq

/-- R100: CONSTRUCT of a constructed block is turned away or refused. -/
theorem construct_cfg_of_constructed (a : Bool) (ref : Word32) {s : State} (hc : s.cfg.constructed = true) :
    (construct a ref s).cfg = s.cfg := by
  unfold construct
  rw [if_pos hc]
  split_ifs <;> rfl

/-- R12: no operation but CONSTRUCT writes the configuration. -/
theorem exec_cfg {i : Instr} {s s' : State} (hi : ∀ a ref, i ≠ .construct a ref) (h : exec i s = .next s') :
    s'.cfg = s.cfg := by
  cases i with
  | construct a ref => exact absurd rfl (hi a ref)
  | setFrequency t =>
    obtain rfl : setFrequency t s = s' := Host.Outcome.next.inj h
    exact setFrequency_cfg t s
  | encodeAndWrite blk extra =>
    obtain rfl : (encodeAndWrite blk extra s).state = s' := Host.Outcome.next.inj h
    exact ((closed_cfg s.cfg).keepsEncodeAndWrite blk extra rfl).cfg_eq
  | plan | encPll | encMs | pack8 =>
    obtain rfl := Host.Outcome.next.inj h
    rfl
  | _ =>
    obtain rfl : (busWrite _ _ s).state = s' := Host.Outcome.next.inj h
    exact busWrite_cfg _ _ s

/-- R12: no operation at all writes the configuration of a constructed block. -/
theorem exec_cfg_of_constructed {i : Instr} {s s' : State} (hc : s.cfg.constructed = true)
    (h : exec i s = .next s') : s'.cfg = s.cfg := by
  by_cases hi : ∃ a ref, i = .construct a ref
  · obtain ⟨a, ref, rfl⟩ := hi
    obtain rfl : construct a ref s = s' := Host.Outcome.next.inj h
    exact construct_cfg_of_constructed a ref hc
  · exact exec_cfg (fun a ref ha => hi ⟨a, ref, ha⟩) h

theorem stepUop_cfg_of_constructed {w : UopWord} {s s' : State} (hc : s.cfg.constructed = true)
    (h : stepUop w s = .next s') : s'.cfg = s.cfg := by
  unfold stepUop at h
  split at h
  · exact exec_cfg_of_constructed hc h
  · cases h

theorem stepCommand_cfg_of_constructed {w : CmdWord} {s s' : State} (hc : s.cfg.constructed = true)
    (h : stepCommand w s = .next s') : s'.cfg = s.cfg := by
  unfold stepCommand at h
  split at h
  · exact exec_cfg_of_constructed hc h
  · obtain rfl := Host.Outcome.next.inj h
    rfl

/-- R12: no step without reset writes the configuration of a constructed block. -/
theorem stepRunning_cfg_of_constructed {s s' : State} (hc : s.cfg.constructed = true)
    (h : stepRunning s = .next s') : s'.cfg = s.cfg := by
  rcases stepRunning_cases s with ⟨w, -, hw⟩ | ⟨-, -, hrun⟩ | ⟨w, -, -, -, hu⟩ | ⟨w, rest, -, -, -, -, hcmd⟩ |
    ⟨-, -, -, -, hidle⟩
  · obtain rfl := Host.Outcome.next.inj (hw.symm.trans h)
    exact (closed_cfg s.cfg).keepsResume (busWrite_cfg _ _ s)
  · obtain rfl := Host.Outcome.next.inj (hrun.symm.trans h)
    exact ((closed_cfg s.cfg).keepsRunSequence rfl).cfg_eq
  · exact stepUop_cfg_of_constructed (s := { s with uop := none }) hc (hu.symm.trans h)
  · exact stepCommand_cfg_of_constructed (s := { s with cmds := rest }) hc (hcmd.symm.trans h)
  · obtain rfl := Host.Outcome.next.inj (hidle.symm.trans h)
    rfl

/-- Settles O53: each operation made of bus writes keeps the configuration because a bus write does, CONSTRUCT is the one
operation that writes it, and it refuses a constructed block. -/
theorem configurationNeverChangesAfterConstruction : Obligations.ConfigurationNeverChangesAfterConstruction := by
  refine ⟨fun i s s' hi h => exec_cfg hi h, fun a ref s s' hc h => exec_cfg_of_constructed hc h,
    fun s s' hc hr h => ?_⟩
  rw [step_running hr] at h
  exact stepRunning_cfg_of_constructed (s := { s with rst := s.rst.tail }) hc h

end Sys2Proof.Machine
end

section
/-! SUPPORT. What an accepted SET_FREQUENCY does is a function of the state its first block write begins in, which
holds nothing of the old datapath registers and byte buffer (R14, R15). -/

namespace Sys2Proof.Machine

open Sys2Proof.Config

/-- R14, R15: acceptance, PLAN, ENC_PLL and the preparation of the first block write together write every datapath
register and the whole byte buffer, each from the target and the configuration. -/
theorem prepareBlock_of_accepted (t : Word32) (s : State) (x : Datapath) (b : Buffer) :
    prepareBlock .pllA 0 (encPll (advance (plan (acceptSetFrequency t { s with dp := x, buf := b })))) =
      prepareBlock .pllA 0 (encPll (advance (plan (acceptSetFrequency t s)))) := rfl

/-- An ENCODE_AND_WRITE is a function of the state in which its loop begins (R92). -/
theorem encodeAndWrite_congr {blk : BlockId} {extra : Byte} {s s' : State}
    (h : prepareBlock blk extra s = prepareBlock blk extra s') :
    encodeAndWrite blk extra s = encodeAndWrite blk extra s' := by
  simp only [encodeAndWrite, h]

theorem runSequence_of_accepted (t : Word32) (s : State) (x : Datapath) (b : Buffer) :
    runSequence (acceptSetFrequency t { s with dp := x, buf := b }) = runSequence (acceptSetFrequency t s) := by
  have first := encodeAndWrite_congr (prepareBlock_of_accepted t s x b)
  show Progress.andThen (encodeAndWrite .pllA 0 _) _ = Progress.andThen (encodeAndWrite .pllA 0 _) _
  rw [first]

theorem setFrequency_of_accepted {t : Word32} {s : State} (hb : s.flags.busy = false)
    (hc : s.cfg.constructed = true) (ht : t ≠ 0) :
    setFrequency t s = (runSequence (acceptSetFrequency t s)).state := by
  rw [setFrequency, if_neg (by simp [hb]), if_neg (by simp [hc]), if_neg ht]

/-- Settles O20: the state in which the first write is issued holds nothing of the old datapath and buffer. -/
theorem setFrequencyReadsNoStaleRegister : Obligations.SetFrequencyReadsNoStaleRegister := by
  intro s t x b hb hc ht
  show Host.Outcome.next (setFrequency t _) = .next (setFrequency t s)
  rw [setFrequency_of_accepted hb hc ht, setFrequency_of_accepted (s := { s with dp := x, buf := b }) hb hc ht,
    runSequence_of_accepted]

end Sys2Proof.Machine
end

section
/-! SUPPORT. The tables of the state: the Register Map, the fixed bytes, the reset values and the codes. -/

namespace Sys2Proof.Machine

open Sys2Proof.Config

/-- Settles O34: the tables of R19, R56 and R57 and R31's two addresses are the model's definitions. -/
theorem registerMapAndFixedBytes : Obligations.RegisterMapAndFixedBytes := by
  unfold Obligations.RegisterMapAndFixedBytes
  decide

/-- Settles O48: each value is read off `State.reset`. -/
theorem resetLeavesTheSpecValues : Obligations.ResetLeavesTheSpecValues := by
  unfold Obligations.ResetLeavesTheSpecValues
  decide

/-- Settles O49: the code tables of R16 and R17 are the model's definitions. -/
theorem codesOfSeqStateAndStatus : Obligations.CodesOfSeqStateAndStatus := by
  unfold Obligations.CodesOfSeqStateAndStatus
  decide

end Sys2Proof.Machine
end

section
/-! SUPPORT. The record of the run (R44): a property of the trace and of the device registers that every bus write keeps
is kept by every step without reset. The trace grows, and the device agrees with it. -/

namespace Sys2Proof.Machine

open Sys2Proof.Config

/-- `P` is kept by a bus write and depends on the trace and the device registers only, so CONSTRUCT keeps it too. -/
structure RecordClosed (P : State → Prop) : Prop where
  bus : ∀ (reg val : Byte) (s : State), P s → (busWrite reg val s).Leaves P P
  ext : ∀ s s' : State, P s → s'.trace = s.trace → s'.dev = s.dev → P s'

namespace RecordClosed

variable {P : State → Prop} (c : RecordClosed P)

include c

theorem closed : Closed P where
  bus := c.bus
  ext s s' h htrace hdev _ _ := c.ext s s' h htrace hdev

theorem keepsConstruct (a : Bool) (ref : Word32) {s : State} (h : P s) : P (construct a ref s) := by
  unfold construct
  split_ifs
  · exact h
  all_goals exact c.ext s _ h rfl rfl

theorem keepsSetFrequency (t : Word32) {s : State} (h : P s) : P (setFrequency t s) := by
  unfold setFrequency
  split_ifs
  · exact h
  · exact c.ext s _ h rfl rfl
  · exact c.ext s _ h rfl rfl
  · exact (c.closed.keepsRunSequence (c.ext s (acceptSetFrequency t s) h rfl rfl)).state fun _ hs => hs

theorem keepsExec {i : Instr} {s s' : State} (h : P s) (he : exec i s = .next s') : P s' := by
  cases i with
  | construct a ref =>
    obtain rfl : construct a ref s = s' := Host.Outcome.next.inj he
    exact c.keepsConstruct a ref h
  | setFrequency t =>
    obtain rfl : setFrequency t s = s' := Host.Outcome.next.inj he
    exact c.keepsSetFrequency t h
  | encodeAndWrite blk extra =>
    obtain rfl : (encodeAndWrite blk extra s).state = s' := Host.Outcome.next.inj he
    exact (c.closed.keepsEncodeAndWrite blk extra h).state fun _ hs => hs
  | plan | encPll | encMs | pack8 =>
    obtain rfl := Host.Outcome.next.inj he
    exact c.ext s _ h rfl rfl
  | _ =>
    obtain rfl : (busWrite _ _ s).state = s' := Host.Outcome.next.inj he
    exact (c.bus _ _ s h).state fun _ hs => hs

theorem keepsStepUop {w : UopWord} {s s' : State} (h : P s) (hs : stepUop w s = .next s') : P s' := by
  unfold stepUop at hs
  split at hs
  · exact c.keepsExec h hs
  · cases hs

theorem keepsStepCommand {w : CmdWord} {s s' : State} (h : P s) (hs : stepCommand w s = .next s') : P s' := by
  rcases stepCommand_cases w s with hc | ⟨a, ref, hc⟩ | ⟨t, hc⟩ <;>
    obtain rfl := Host.Outcome.next.inj (hc.symm.trans hs)
  · exact c.ext s _ h rfl rfl
  · exact c.keepsConstruct a ref h
  · exact c.keepsSetFrequency t h

theorem keepsStepRunning {s s' : State} (h : P s) (hs : stepRunning s = .next s') : P s' := by
  rcases stepRunning_cases s with ⟨w, -, hc⟩ | ⟨-, -, hc⟩ | ⟨w, -, -, -, hc⟩ | ⟨w, rest, -, -, -, -, hc⟩ |
    ⟨-, -, -, -, hc⟩
  · obtain rfl := Host.Outcome.next.inj (hc.symm.trans hs)
    exact c.closed.keepsResume ((c.bus _ _ s h).state fun _ hx => hx)
  · obtain rfl := Host.Outcome.next.inj (hc.symm.trans hs)
    exact (c.closed.keepsRunSequence h).state fun _ hx => hx
  · exact c.keepsStepUop (c.ext s { s with uop := none } h rfl rfl) (hc.symm.trans hs)
  · exact c.keepsStepCommand (c.ext s { s with cmds := rest } h rfl rfl) (hc.symm.trans hs)
  · obtain rfl := Host.Outcome.next.inj (hc.symm.trans hs)
    exact h

/-- Every step without reset keeps such a property. -/
theorem keepsStep {s s' : State} (h : P s) (hr : s.rst.head? ≠ some true) (hs : step s = .next s') : P s' := by
  rw [step_running hr] at hs
  exact c.keepsStepRunning (c.ext s { s with rst := s.rst.tail } h rfl rfl) hs

end RecordClosed

/-- One more entry is the last one of its own register and of no other. -/
theorem lastWrite_append_singleton (a7 : BusAddr) (reg : Byte) (tr : List Event) (ev : Event) :
    lastWrite a7 reg (tr ++ [ev]) = if ev.a7 = a7 ∧ ev.reg = reg then some ev else lastWrite a7 reg tr := by
  by_cases h : ev.a7 = a7 ∧ ev.reg = reg <;> simp [lastWrite, List.filter_append, h]

/-- R44 for one answered write: the device still agrees with the trace when the write's own register holds `v`, which is
the value written if the answer is `Ok`. -/
theorem State.deviceAgrees.afterWrite {s s' : State} (h : s.deviceAgrees) {reg val v : Byte} {ans : Answer}
    (htrace : s'.trace = s.trace ++ [⟨s.cfg.devAddr, reg, val, ans⟩])
    (hdev : s'.dev = s.dev.write (deviceKey s.cfg.devAddr reg) v) (hv : ans = .ok → v = val) : s'.deviceAgrees := by
  intro a r ev hlast hok
  rw [htrace, lastWrite_append_singleton] at hlast
  show s'.dev.read (deviceKey a r) = some ev.val
  rw [hdev, Memory.read_write]
  split_ifs at hlast with hsame
  · obtain rfl := Option.some.inj hlast
    obtain ⟨rfl, rfl⟩ := hsame
    rw [if_pos rfl, hv hok]
  · rw [if_neg fun hk => hsame ?_]
    · exact h a r ev hlast hok
    · obtain ⟨ha, hreg⟩ := deviceKey_injective hk
      exact ⟨ha.symm, hreg.symm⟩

/-- R44: whatever the transport answers, a bus write keeps the device in agreement with the trace. -/
theorem recordClosed_deviceAgrees : RecordClosed State.deviceAgrees where
  bus reg val s h := busWrite_leaves
    (fun _ => h.afterWrite (reg := reg) (val := val) (ans := .ok) rfl rfl fun _ => rfl)
    (fun e _ => h.afterWrite (reg := reg) (val := val) (ans := .err e) rfl rfl fun hok => by cases hok)
    (fun _ => h)
  ext s s' h htrace hdev a r ev hlast hok := by
    rw [htrace] at hlast
    show s'.dev.read _ = _
    rw [hdev]
    exact h a r ev hlast hok

/-- Settles O55: a bus write keeps the agreement, an `Ok` by storing the value it records and an error by recording no
`Ok`, and nothing else in a step touches trace or device. -/
theorem deviceHoldsTheLastAnsweredValue : Obligations.DeviceHoldsTheLastAnsweredValue := fun _ _ h hr hs =>
  recordClosed_deviceAgrees.keepsStep h hr hs

/-- Whatever the transport answers, a bus write keeps a beginning of the trace. -/
theorem recordClosed_tracePrefix (tr : List Event) : RecordClosed (fun s => tr <+: s.trace) where
  bus _ _ _ h := busWrite_leaves
    (fun _ => h.trans (List.prefix_append _ _))
    (fun _ _ => h.trans (List.prefix_append _ _))
    (fun _ => h)
  ext _ _ h htrace _ := by rwa [htrace]

/-- R44, R140: no step takes an entry out of the trace, reset included. -/
theorem step_trace_prefix {s s' : State} (hs : step s = .next s') : s.trace <+: s'.trace := by
  by_cases hr : s.rst.head? = some true
  · obtain ⟨rest, hrst⟩ := List.head?_eq_some_iff.mp hr
    have hc : step s = .next (resetEvent { s with rst := rest }) := by simp [step, hrst]
    obtain rfl := Host.Outcome.next.inj (hc.symm.trans hs)
    rw [resetEvent_trace]
  · exact (recordClosed_tracePrefix s.trace).keepsStep List.prefix_rfl hr hs

/-- Settles O54: a bus write appends its entry, reset keeps the trace, and nothing else touches it. -/
theorem traceOnlyGrows : Obligations.TraceOnlyGrows := fun _ _ hs => by
  obtain ⟨new, hnew⟩ := step_trace_prefix hs
  exact ⟨new, hnew.symm⟩

/-- The look at an outstanding write, in a step in which reset is not asserted (R91). -/
theorem step_outstanding {s : State} {w : BusWord} (hq : s.busReq = some w) (hr : s.rst.head? ≠ some true) :
    step s = .next (resume (busWrite (w.extractLsb' 8 8) (w.extractLsb' 0 8) { s with rst := s.rst.tail }).state) := by
  rw [step_running hr]
  simp only [stepRunning, hq]
  exact stepOutstanding_eq w _

/-- An answered bus write adds its entry to the trace (R33, R44, R91). -/
theorem busWrite_answered_trace {s : State} {a : Answer} {rest : List BusRsp} (reg val : Byte)
    (h : s.rsps = .answered a :: rest) :
    (busWrite reg val s).state.trace = s.trace ++ [⟨s.cfg.devAddr, reg, val, a⟩] := by
  cases a with
  | ok => rw [busWrite_ok reg val h]; rfl
  | err e => rw [busWrite_err reg val h]; rfl

/-- Settles O10: the answer to the outstanding write is recorded first, and what the sequencer does then keeps that
record. -/
theorem outstandingWriteIsTheNextTraceEntry : Obligations.OutstandingWriteIsTheNextTraceEntry := by
  intro s w a rest hq hr hrsps
  obtain ⟨new, hnew⟩ := (recordClosed_tracePrefix _).closed.keepsResume
    (s := (busWrite (w.extractLsb' 8 8) (w.extractLsb' 0 8) { s with rst := s.rst.tail }).state) List.prefix_rfl
  refine ⟨_, new, step_outstanding hq hr, ?_⟩
  rw [← hnew, busWrite_answered_trace _ _ (s := { s with rst := s.rst.tail }) hrsps, List.append_assoc]
  rfl

end Sys2Proof.Machine
end

section
/-! SUPPORT. With nothing to do the block waits: for the transport (R32, R109), and for the host (R142). -/

namespace Sys2Proof.Machine

/-- The look at an outstanding write, when nothing drives the reset input. -/
theorem step_look {s : State} {w : BusWord} (hr : s.rst = []) (hq : s.busReq = some w) :
    step s = .next (resume (busWrite (w.extractLsb' 8 8) (w.extractLsb' 0 8) s).state) := by
  simp only [step, hr, stepRunning, hq]
  exact stepOutstanding_eq w s

theorem resume_waiting {s : State} {w : BusWord} (h : s.busReq = some w) : resume s = s := by
  simp [resume, h]

/-- R32: a look at the response port that finds no answer leaves the outstanding write as it is. -/
theorem holdRequest_outstanding {s : State} {w : BusWord} (h : s.busReq = some w) (rs : List BusRsp) :
    holdRequest (w.extractLsb' 8 8) (w.extractLsb' 0 8) { s with rsps := rs } = { s with rsps := rs } := by
  simp only [holdRequest, busWord_eta, h]

/-- R32, R91: a step that finds no answer to the outstanding write uses up its look and changes nothing else. -/
theorem step_unanswered {s : State} {w : BusWord} {rest : List BusRsp} (hr : s.rst = []) (hq : s.busReq = some w)
    (h : s.rsps = .silent :: rest ∨ (s.rsps = [] ∧ rest = [])) : step s = .next { s with rsps := rest } := by
  have hlook : busWrite (w.extractLsb' 8 8) (w.extractLsb' 0 8) s = .waiting { s with rsps := rest } := by
    rw [← holdRequest_outstanding hq]
    rcases h with h | ⟨h, rfl⟩
    · exact busWrite_silent _ _ h
    · rw [busWrite_unanswered _ _ h, ← h]
  rw [step_look hr hq, hlook, Progress.state_waiting]
  exact congrArg _ (resume_waiting hq)

/-- R142: a block with nothing outstanding, nothing in progress and no command stays as it is. -/
theorem step_ready {s : State} (h : s.ready) (hc : s.cmds = []) : step s = .next s := by
  obtain ⟨hr, hu, hq, hb⟩ := h
  simp [step, stepRunning, hr, hu, hq, hb, hc]

/-- Settles O11: both forms of no answer are `step_unanswered`, and with no command it is `step_ready`. -/
theorem blockWaitsForTransportAndHost : Obligations.BlockWaitsForTransportAndHost := by
  refine ⟨fun s w hr hq => ⟨fun h => ?_, fun rest h => step_unanswered hr hq (.inl h)⟩, fun _ => step_ready⟩
  rw [step_unanswered hr hq (.inr ⟨h, rfl⟩), ← h]

end Sys2Proof.Machine
end

section
/-! SUPPORT. Which writes a SET_FREQUENCY under way issues, for every list of answers: `Emits` for the rest of the
microprogram from each border of the command on (R101, R102, R103), and from a write that had to wait (R39). -/

namespace Sys2Proof.Machine

open Sys2Proof.Config

theorem samePlan.trans {x y z : Datapath} (h : samePlan x y) (g : samePlan y z) : samePlan x z := by
  unfold samePlan at h g ⊢
  rw [g, h]

/-- WIDX counts the writes of a run (R16). -/
theorem OkRun.widx_toNat {s s' : State} {ws : List (Byte × Byte)} (h : OkRun s s' ws)
    (hlt : s.widx.toNat + ws.length < 32) : s'.widx.toNat = s.widx.toNat + ws.length := by
  rw [h.widx, BitVec.toNat_add, BitVec.toNat_ofNat]
  omega

theorem OkRun.micro_eq {s s' : State} {ws : List (Byte × Byte)} (h : OkRun s s' ws) (hp : samePlan s.dp s'.dp) :
    s'.micro = s.micro := by
  obtain ⟨-, -, -, -, hparams⟩ := h.outside
  exact micro_eq_of_samePlan hparams hp

/-- `s'` belongs to the command in progress in `s`, at SEQ_STATE `q`. -/
structure SameCommand (s : State) (q : SeqState) (s' : State) : Prop where
  seq : s'.seq = q
  flags : s'.flags = s.flags
  plan : samePlan s.dp s'.dp

theorem SameCommand.trans {s s' s'' : State} {q q' : SeqState} (h : SameCommand s q s') (g : SameCommand s' q' s'') :
    SameCommand s q' s'' :=
  ⟨g.seq, g.flags.trans h.flags, h.plan.trans g.plan⟩

/-- The command in progress in `s` has ended well in `s'` (R101, R102). -/
structure CommandDone (s s' : State) : Prop where
  seq : s'.seq = .clockEnabled
  flags : s'.flags = s.flags.succeeded
  inBlock : s'.inBlock = false
  plan : samePlan s.dp s'.dp

theorem CommandDone.of_sameCommand {s s' s'' : State} {q : SeqState} (h : SameCommand s q s')
    (g : CommandDone s' s'') : CommandDone s s'' :=
  ⟨g.seq, g.flags.trans (congrArg Flags.succeeded h.flags), g.inBlock, h.plan.trans g.plan⟩

/-- `p`, started in `s`, issues the writes `n` to `m - 1` of the command and leaves SEQ_STATE as it is (R103). -/
def IssuesWrites (n m : Nat) (p : Progress) (s : State) : Prop :=
  Emits p s ((s.micro.drop n).take (m - n)) (fun s' => SameCommand s s.seq s' ∧ s'.inBlock = false)
    (fun k => SameCommand s (seqWhileIssued (n + k)))

/-- `p`, started in `s`, issues the writes of the command from number `n` on and ends the command (R103). -/
def FinishesCommand (n : Nat) (p : Progress) (s : State) : Prop :=
  Emits p s (s.micro.drop n) (CommandDone s) (fun k => SameCommand s (seqWhileIssued (n + k)))

/-- `s'` comes from `s` within a command by operations that issue no write: of what the writes depend on, only SEQ_STATE
may differ. -/
structure Bookkeeping (s s' : State) : Prop where
  run : OkRun s s' []
  rsps : s'.rsps = s.rsps
  flags : s'.flags = s.flags
  plan : samePlan s.dp s'.dp

theorem Bookkeeping.sameCommand {s s' : State} (h : Bookkeeping s s') : SameCommand s s'.seq s' :=
  ⟨rfl, h.flags, h.plan⟩

/-- Reaching ClockEnabled alone changes the flags (R102). -/
theorem bookkeeping_advance {s : State} (h : s.seq ≠ .pllReset) : Bookkeeping s (advance s) where
  run := OkRun.nothing ⟨advance_cfg s, advance_cmds s, advance_uop s, advance_rst s, advance_params s⟩
    (advance_trace s) (advance_dev s) (advance_widx s) (advance_freeCount s) (advance_busReq s)
  rsps := advance_rsps s
  flags := by
    unfold advance
    split
    case h_5 hs => exact absurd hs h
    all_goals rfl
  plan := by rw [advance_dp]; rfl

/-- An encoder and the preparation of a block write (R80, R85, R92). -/
theorem bookkeeping_prepareBlock (blk : BlockId) (extra : Byte) (tr : Triple) (s : State) :
    Bookkeeping s (prepareBlock blk extra (setTriple tr s)) :=
  ⟨OkRun.nothing ⟨rfl, rfl, rfl, rfl, rfl⟩ rfl rfl rfl rfl rfl, rfl, rfl, rfl⟩

theorem IssuesWrites.of_bookkeeping {n m : Nat} {p : Progress} {s s' : State} (h : IssuesWrites n m p s')
    (hb : Bookkeeping s s') (hseq : s'.seq = s.seq) : IssuesWrites n m p s := by
  unfold IssuesWrites at h
  rw [hb.run.micro_eq hb.plan, hseq] at h
  exact (h.mono (fun _ _ ⟨hs, hi⟩ => ⟨hb.sameCommand.trans hs, hi⟩) (fun _ _ _ hs => hb.sameCommand.trans hs)).rebase
    hb.rsps hb.run

theorem FinishesCommand.of_bookkeeping {n : Nat} {p : Progress} {s s' : State} (h : FinishesCommand n p s')
    (hb : Bookkeeping s s') : FinishesCommand n p s := by
  unfold FinishesCommand at h
  rw [hb.run.micro_eq hb.plan] at h
  exact (h.mono (fun _ _ hd => hd.of_sameCommand hb.sameCommand) (fun _ _ _ hs => hb.sameCommand.trans hs)).rebase
    hb.rsps hb.run

/-- Writes `n` to `m - 1`, and then the rest of the command. -/
theorem IssuesWrites.andThen {n m : Nat} {p : Progress} {f : State → Progress} {s : State} (h : IssuesWrites n m p s)
    (hw : s.widx.toNat = n) (hnm : n ≤ m) (hm : m ≤ 18)
    (hf : ∀ s', SameCommand s s.seq s' → s'.inBlock = false → s'.widx.toNat = m → FinishesCommand m (f s') s') :
    FinishesCommand n (p.andThen f) s := by
  have hlen : ((s.micro.drop n).take (m - n)).length = m - n := by simp; omega
  have hcut : (s.micro.drop n).take (m - n) ++ s.micro.drop m = s.micro.drop n := by
    conv_rhs => rw [← List.take_append_drop (m - n) (s.micro.drop n), List.drop_drop, Nat.add_sub_cancel' hnm]
  unfold FinishesCommand
  rw [← hcut]
  refine (Emits.andThen (Q' := CommandDone s) (R' := fun k => SameCommand s (seqWhileIssued (m + k))) h
    fun s' ⟨hs, hi⟩ hrun => ?rest).mono (fun _ _ hd => hd) (fun k s' _ hR => ?position)
  case rest =>
    have hg := hf s' hs hi (by rw [hrun.widx_toNat] <;> rw [hlen] <;> omega)
    unfold FinishesCommand at hg
    rw [hrun.micro_eq hs.plan] at hg
    exact hg.mono (fun _ _ hd => hd.of_sameCommand hs) (fun _ _ _ hs' => hs.trans hs')
  case position =>
    rw [hlen] at hR
    split_ifs at hR with hk
    · exact hR
    · rwa [show m + (k - (m - n)) = n + k by omega] at hR

/-- A write of the command outside its block writes. -/
theorem issuesWrites_busWrite {n : Nat} {s : State} {reg val : Byte}
    (hw : (s.micro.drop n).take (n + 1 - n) = [(reg, val)]) (hseq : s.seq = seqWhileIssued n) (hi : s.inBlock = false) :
    IssuesWrites n (n + 1) (busWrite reg val s) s := by
  have hsame : ∀ s', sameCore s s' → SameCommand s s.seq s' := fun s' ⟨hdp, _, hq, hf, _⟩ => ⟨hq, hf, by rw [hdp]; rfl⟩
  unfold IssuesWrites
  rw [hw]
  refine (emits_busWrite reg val s).mono (fun s' _ h => ⟨hsame s' h, ?_⟩) (fun k s' hk h => ?_)
  · obtain ⟨-, -, -, -, hin⟩ := h
    exact hin.trans hi
  · obtain rfl : k = 0 := by simpa using hk
    rw [Nat.add_zero, ← hseq]
    exact hsame s' h

/-- R103: what the loop of a block write has still to send is the rest of the block in the microprogram. -/
theorem InBlockWrite.writesFrom_eq {blk : BlockId} {start : Nat} {s : State} (h : InBlockWrite blk start s)
    (hb : CommandBlock blk start) :
    writesFrom (blockBase blk) s.dp.off.toNat (s.buf.toList.drop s.dp.off.toNat) =
      (s.micro.drop s.widx.toNat).take (start + 8 - s.widx.toNat) := by
  have hoff := h.off
  apply List.ext_getElem?
  intro k
  rw [writesFrom_getElem?, List.getElem?_drop]
  by_cases hk : s.dp.off.toNat + k < 8
  · rw [List.getElem?_take_of_lt (by omega), List.getElem?_drop, ← hoff, Nat.add_assoc, hb.micro_getElem? s hk,
      h.bytes]
  · rw [List.getElem?_eq_none (by simp [Buffer.toList]; omega), List.getElem?_eq_none (by simp; omega)]
    rfl

/-- The rest of a block write of the command, from x[OFF] on (R92, R103). -/
theorem InBlockWrite.issuesWrites {blk : BlockId} {start : Nat} {s : State} (h : InBlockWrite blk start s)
    (hb : CommandBlock blk start) :
    IssuesWrites s.widx.toNat (start + 8) (writeBytes (s.buf.toList.drop s.dp.off.toNat) s) s := by
  have hoff := h.off
  have hle := h.off_le
  have hemits := emits_writeBytes (blockBase blk) (s.buf.toList.drop s.dp.off.toNat) s s.dp.off.toNat h.base (by simp)
    h.inBlock (by simp [Buffer.toList]; omega)
  rw [h.writesFrom_eq hb] at hemits
  refine hemits.mono (fun s' _ ⟨hdp, _, hq, hf, hi⟩ => ⟨⟨hq, hf, by rw [hdp]; rfl⟩, hi⟩)
    (fun k s' hk ⟨hdp, _, hq, hf, _⟩ => ⟨?_, hf, by rw [hdp]; rfl⟩)
  have hk8 : s.dp.off.toNat + k < 8 := by
    rw [List.length_take] at hk
    omega
  rw [hq, h.seq, ← hoff, Nat.add_assoc, hb.seqWhileIssued_eq hk8]

/-- A block write of the command, with its encoder and from its preparation on (R92, R101). -/
theorem issuesWrites_encodeAndWrite {blk : BlockId} {start : Nat} {s : State} {tr : Triple}
    (hb : CommandBlock blk start) (hw : s.widx.toNat = start)
    (h : InBlockWrite blk start (prepareBlock blk 0 (setTriple tr s))) :
    IssuesWrites start (start + 8) (encodeAndWrite blk 0 (setTriple tr s)) s := by
  have hrest := h.issuesWrites hb
  rw [show (prepareBlock blk 0 (setTriple tr s)).widx.toNat = start from hw] at hrest
  exact hrest.of_bookkeeping (bookkeeping_prepareBlock blk 0 tr s) rfl

/-! From each border of the command on. -/

theorem finishesCommand_fromPllReset {s : State} (hseq : s.seq = .pllReset) (hi : s.inBlock = false) :
    FinishesCommand 17 (runFromPllReset s) s := by
  have hwrite : IssuesWrites 17 18 (enableClock .clk0 s) s := issuesWrites_busWrite rfl hseq hi
  refine (Emits.andThen (v := []) (Q' := CommandDone s) (R' := fun _ _ => False) hwrite
    fun s' ⟨hs, hin⟩ _ => ?_).mono (fun _ _ hd => hd) (fun k s' hk hR => ?_)
  · rw [advance_pllReset (hs.seq.trans hseq)]
    exact Emits.done (OkRun.nothing ⟨rfl, rfl, rfl, rfl, rfl⟩ rfl rfl rfl rfl rfl) rfl
      ⟨rfl, congrArg Flags.succeeded hs.flags, hin, hs.plan⟩
  · rwa [if_pos (by simpa using hk)] at hR

theorem finishesCommand_fromMultisynth {s : State} (hseq : s.seq = .multisynthProgrammed) (hi : s.inBlock = false)
    (hw : s.widx.toNat = 16) : FinishesCommand 16 (runFromMultisynth s) s := by
  have hwrite : IssuesWrites 16 17 (resetPll .a s) s := issuesWrites_busWrite rfl hseq hi
  refine hwrite.andThen hw (by decide) (by decide) fun s' hs hin _ => ?_
  have hq := hs.seq.trans hseq
  exact (finishesCommand_fromPllReset (by rw [advance_multisynth hq]) (by simpa using hin)).of_bookkeeping
    (bookkeeping_advance (by simp [hq]))

theorem finishesCommand_fromPllProgrammed {s : State} (hseq : s.seq = .pllProgrammed) (hw : s.widx.toNat = 8) :
    FinishesCommand 8 (runFromPllProgrammed s) s := by
  have hblock : InBlockWrite .ms0 8 (prepareBlock .ms0 0 (encMs s)) := by
    refine ⟨rfl, hseq, rfl, hw.symm, Nat.zero_le 8, ?_⟩
    rw [State.microBytes, micro_ms0]
    rfl
  refine (issuesWrites_encodeAndWrite .ms0 hw hblock).andThen hw (by decide) (by decide) fun s' hs hin hw' => ?_
  have hq := hs.seq.trans hseq
  exact (finishesCommand_fromMultisynth (by rw [advance_pllProgrammed hq]) (by simpa using hin)
    (by simpa using hw')).of_bookkeeping (bookkeeping_advance (by simp [hq]))

/-! A command that waits: the look at the response port and what follows it are the rest of the operation in progress
and of the command, so a wait comes down to the borders. -/

theorem Progress.andThen_assoc (p : Progress) (f g : State → Progress) :
    (p.andThen f).andThen g = p.andThen fun s => (f s).andThen g := by
  cases p <;> rfl

/-- What follows a bus write matters after the answer `Ok` only. -/
theorem busWrite_andThen_congr {reg val : Byte} {s : State} {f g : State → Progress}
    (h : ∀ s', sameCore s s' → f s' = g s') : (busWrite reg val s).andThen f = (busWrite reg val s).andThen g := by
  rcases busWrite_cases reg val s with ⟨rest, _, hc⟩ | ⟨e, rest, _, hc⟩ | ⟨rest, _, hc⟩ <;> rw [hc]
  · exact h _ ⟨rfl, rfl, rfl, rfl, rfl⟩
  · rfl
  · rfl

/-- The look at the outstanding write [reg, val] and, after the answer `Ok`, the rest of the operation and of the
command it belongs to. -/
def lookAndGoOn (reg val : Byte) (s : State) : Progress :=
  (busWrite reg val s).andThen fun s1 => (finishOperation s1).andThen finishCommand

/-- After a failure or with no answer the sequencer does nothing more (R39, R121). -/
theorem resume_busWrite (reg val : Byte) (s : State) :
    resume (busWrite reg val s).state = (lookAndGoOn reg val s).state := by
  unfold lookAndGoOn
  rcases busWrite_cases reg val s with ⟨rest, _, hc⟩ | ⟨e, rest, _, hc⟩ | ⟨rest, _, hc⟩ <;> rw [hc]
  · exact resume_answered rfl
  · rw [Progress.state_raised, resume_answered rfl, finishOperation_closed rfl, Progress.andThen_completed,
      finishCommand_idle rfl]
    rfl
  · exact resume_waiting rfl

/-- Inside a block write of the command the look is the loop's own, at x[OFF] (R92). -/
theorem InBlockWrite.lookAndGoOn_eq {blk : BlockId} {start : Nat} {s : State} {w : Byte × Byte}
    (h : InBlockWrite blk start s) (hb : CommandBlock blk start) (hlt : s.dp.off.toNat < 8)
    (hw : s.micro[s.widx.toNat]? = some w) :
    lookAndGoOn w.1 w.2 s = (writeBytes (s.buf.toList.drop s.dp.off.toNat) s).andThen finishCommand := by
  have hlen : s.dp.off.toNat < s.buf.toList.length := hlt
  obtain rfl := Option.some.inj (hw.symm.trans (h.nextWrite hb (List.getElem?_eq_getElem hlen)))
  rw [List.drop_eq_getElem_cons hlen, writeBytes_cons, lookAndGoOn, ← Progress.andThen_assoc]
  congr 1
  refine busWrite_andThen_congr fun s' ⟨hdp, hbuf, _, _, hin⟩ => ?_
  have hoff : (stepOff s').dp.off.toNat = s.dp.off.toNat + 1 := by
    show (s'.dp.off + 1).toNat = _
    rw [hdp, BitVec.toNat_add_of_lt] <;> simp; omega
  rw [finishOperation_inBlock (hin.trans h.inBlock), hoff, stepOff_buf, hbuf]

/-- Outside a block write the look is RESET_PLL's or ENABLE_CLOCK's own (R93, R94), and the command goes on after it. -/
theorem lookAndGoOn_eq_of_closed {s : State} (hi : s.inBlock = false) (reg val : Byte) :
    lookAndGoOn reg val s = (busWrite reg val s).andThen finishCommand :=
  busWrite_andThen_congr fun s' ⟨_, _, _, _, hin⟩ => by
    rw [finishOperation_closed (hin.trans hi), Progress.andThen_completed]

theorem lookAndGoOn_multisynth {s : State} (hb : s.flags.busy = true) (hseq : s.seq = .multisynthProgrammed)
    (hi : s.inBlock = false) : lookAndGoOn pllResetReg (pllResetValue .a) s = runFromMultisynth s :=
  (lookAndGoOn_eq_of_closed hi _ _).trans (busWrite_andThen_congr fun s' ⟨_, _, hq, hf, _⟩ =>
    finishCommand_multisynth (by rw [hf, hb]) (hq.trans hseq))

theorem lookAndGoOn_pllReset {s : State} (hb : s.flags.busy = true) (hseq : s.seq = .pllReset)
    (hi : s.inBlock = false) : lookAndGoOn (clkCtrl .clk0) clkControlValue s = runFromPllReset s :=
  (lookAndGoOn_eq_of_closed hi _ _).trans (busWrite_andThen_congr fun s' ⟨_, _, hq, hf, _⟩ =>
    finishCommand_pllReset (by rw [hf, hb]) (hq.trans hseq))

/-- In a block write of the command the rest of the block is written, and the rest of the command follows. -/
theorem InBlockWrite.finishesCommand {blk : BlockId} {start : Nat} {s : State} {w : Byte × Byte}
    (h : InBlockWrite blk start s) (hb : CommandBlock blk start) (hlt : s.dp.off.toNat < 8) (hm : start + 8 ≤ 18)
    (hw : s.micro[s.widx.toNat]? = some w)
    (hf : ∀ s', SameCommand s s.seq s' → s'.inBlock = false → s'.widx.toNat = start + 8 →
      FinishesCommand (start + 8) (finishCommand s') s') :
    FinishesCommand s.widx.toNat (lookAndGoOn w.1 w.2 s) s := by
  have hoff := h.off
  rw [h.lookAndGoOn_eq hb hlt hw]
  exact (h.issuesWrites hb).andThen rfl (by omega) hm hf

/-- R39, R102: a waiting command, looked at, issues its writes from number WIDX on. -/
theorem State.Inv.finishesCommand {s : State} {w : Byte × Byte} (h : s.Inv) (hb : s.flags.busy = true)
    (hw : s.micro[s.widx.toNat]? = some w) : FinishesCommand s.widx.toNat (lookAndGoOn w.1 w.2 s) s := by
  obtain ⟨-, -, -, -, hpos, -, hblock⟩ := h
  obtain ⟨hn, hseq⟩ := hpos.issuing hb
  have ⟨hi, _⟩ := hblock
  obtain h8 | ⟨h8, h16⟩ | h16 | h17 : s.widx.toNat < 8 ∨ (8 ≤ s.widx.toNat ∧ s.widx.toNat < 16) ∨
      s.widx.toNat = 16 ∨ s.widx.toNat = 17 := by omega
  · have hs : s.seq = .computedParameters := by simp [hseq, seqWhileIssued, h8]
    have hin := hblock.inPllA hs h8
    have hoff := hin.off
    refine hin.finishesCommand .pllA (by omega) (by decide) hw fun s' hs' _ hw' => ?_
    have hq := hs'.seq.trans hs
    rw [finishCommand_computed (by rw [hs'.flags, hb]) hq]
    exact (finishesCommand_fromPllProgrammed (by rw [advance_computed hq]) (by simpa using hw')).of_bookkeeping
      (bookkeeping_advance (by simp [hq]))
  · have hs : s.seq = .pllProgrammed := by simp [hseq, seqWhileIssued, h8, h16]
    have hin := hblock.inMs0 hs h16
    have hoff := hin.off
    refine hin.finishesCommand .ms0 (by omega) (by decide) hw fun s' hs' hi' hw' => ?_
    have hq := hs'.seq.trans hs
    rw [finishCommand_pllProgrammed (by rw [hs'.flags, hb]) hq]
    exact (finishesCommand_fromMultisynth (by rw [advance_pllProgrammed hq]) (by simpa using hi')
      (by simpa using hw')).of_bookkeeping (bookkeeping_advance (by simp [hq]))
  · rw [h16] at hseq hw ⊢
    obtain rfl := Option.some.inj hw
    have hin : s.inBlock = false := hi.trans (by rw [hseq]; rfl)
    exact (lookAndGoOn_multisynth hb hseq hin).symm ▸ finishesCommand_fromMultisynth hseq hin h16
  · rw [h17] at hseq hw ⊢
    obtain rfl := Option.some.inj hw
    have hin : s.inBlock = false := hi.trans (by rw [hseq]; rfl)
    exact (lookAndGoOn_pllReset hb hseq hin).symm ▸ finishesCommand_fromPllReset hseq hin

/-- R32, R39: a step of a waiting command is the rest of the command, as far as the answers go. -/
theorem State.Inv.step_waiting {s : State} (h : s.Inv) (hb : s.flags.busy = true) (hr : s.rst = []) :
    ∃ p, FinishesCommand s.widx.toNat p s ∧ step s = .next p.state := by
  obtain ⟨w, hw, hq⟩ := h.outstanding hb
  refine ⟨_, h.finishesCommand hb hw, ?_⟩
  rw [step_look hr hq, busWord_reg, busWord_val, resume_busWrite]

/-- R17: BUSY = 1 goes with no result. -/
theorem Flags.consistent.eq_of_busy {f : Flags} (h : f.consistent) (hb : f.busy = true) :
    f = ⟨true, false, false, .none, none⟩ := by
  obtain ⟨hbusy, -, -, herr⟩ := h
  obtain ⟨hdone, hfail, hstatus⟩ := hbusy hb
  have hinfo : f.errInfo = none := by simpa [hstatus] using herr
  cases f
  simp_all

/-- No register is written twice from one write of a command to another (R103). -/
theorem micro_slice_nodup (s : State) (n j : Nat) : (((s.micro.drop n).take j).map Prod.fst).Nodup :=
  (micro_nodup s).sublist (((List.take_sublist _ _).trans (List.drop_sublist _ _)).map _)

/-- Settles O17: with every answer `Ok` the rest of the command completes. -/
theorem waitingCommandGoesOnToTheEnd : Obligations.WaitingCommandGoesOnToTheEnd := by
  intro s rest h hb hr hrsps
  have ⟨_, _, _, _, hpos, _, _⟩ := h
  obtain ⟨hn, -⟩ := hpos.issuing hb
  obtain ⟨p, ⟨hall, -, -⟩, hstep⟩ := h.step_waiting hb hr
  have hlen : (s.micro.drop s.widx.toNat).length = 18 - s.widx.toNat := by simp
  obtain ⟨s', rfl, hrun, hleft, hdone⟩ := hall rest (by rw [hlen]; exact hrsps)
  refine ⟨s', hstep, hdone.seq, ?widx, hdone.flags, hrun.trace, hrun.answered ?some, hleft, hrun.outside,
    hrun.holds ?nodup, hrun.same⟩
  case widx =>
    refine BitVec.eq_of_toNat_eq ((hrun.widx_toNat (by omega)).trans ?_)
    show _ = 18
    omega
  case some => exact List.ne_nil_of_length_pos (by omega)
  case nodup => exact List.take_length (l := s.micro.drop s.widx.toNat) ▸ micro_slice_nodup s _ _

/-- Settles O19: the rest of the command waits at its first write without an answer. -/
theorem waitingCommandWaitsAgainAtAnUnansweredWrite : Obligations.WaitingCommandWaitsAgainAtAnUnansweredWrite := by
  intro s j later h hb hr hj hrsps hlater
  have ⟨_, _, _, hflags, _, _, _⟩ := h
  obtain ⟨p, ⟨-, -, hwait⟩, hstep⟩ := h.step_waiting hb hr
  obtain ⟨w, hw⟩ : ∃ w, s.micro[s.widx.toNat + j]? = some w := ⟨_, List.getElem?_eq_getElem hj⟩
  have hun : unanswered later := hlater.imp_right List.head?_eq_some_iff.mp
  obtain ⟨s1, rfl, hrun, hleft, hcmd⟩ := hwait j w later (by rw [List.getElem?_drop, hw]) hun hrsps
  refine ⟨_, hstep, hcmd.seq, ?widx, hcmd.flags.trans (hflags.eq_of_busy hb), by rw [hw]; rfl, hleft, hrun.trace,
    hrun.outside, hrun.holds (micro_slice_nodup s _ _), hrun.same⟩
  case widx =>
    show s1.widx.toNat = _
    rw [hrun.widx_toNat] <;> simp <;> omega

end Sys2Proof.Machine
end

section
/-! SUPPORT. The decoder and the encoder (30_encoding.md R51, R52, R53, R64): for each format what the decoder makes of the
word of given fields, and the two directions of the round trip. -/

namespace Sys2Proof

theorem eq_ofNat_of_toNat_eq {m n : Nat} {x : BitVec m} (h : x.toNat = n) : x = BitVec.ofNat m n := by
  rw [← h, BitVec.ofNat_toNat, BitVec.setWidth_eq]

/-! HCMD. -/

theorem cmdWord_op_toNat (w : CmdWord) : (w.extractLsb' 33 4).toNat = w.toNat / 2 ^ 33 := by
  rw [BitVec.extractLsb'_toNat, Nat.shiftRight_eq_div_pow]
  omega

theorem cmdWord_addrSel_eq (w : CmdWord) : w.getLsbD 32 = decide (w.toNat / 2 ^ 32 % 2 = 1) := by
  rw [BitVec.getLsbD, Nat.testBit_eq_decide_div_mod_eq]

theorem cmdWord_f_eq (w : CmdWord) : w.extractLsb' 0 32 = BitVec.ofNat 32 (w.toNat % 2 ^ 32) := by
  apply BitVec.eq_of_toNat_eq
  simp

theorem decodeHost_construct {w : CmdWord} (hop : w.extractLsb' 33 4 = 0) :
    decodeHost w = .ok (.construct (w.getLsbD 32) (w.extractLsb' 0 32)) := by
  simp only [decodeHost, hop]
  rfl

theorem decodeHost_setFrequency {w : CmdWord} (hop : w.extractLsb' 33 4 = 1) (has : w.getLsbD 32 = false) :
    decodeHost w = .ok (.setFrequency (w.extractLsb' 0 32)) := by
  simp only [decodeHost, hop, has]
  rfl

theorem decodeHost_reservedAddrSel {w : CmdWord} (hop : w.extractLsb' 33 4 = 1) (has : w.getLsbD 32 = true) :
    decodeHost w = .error .reservedAddrSel := by
  simp only [decodeHost, hop, has]
  rfl

theorem decodeHost_illegalOp {w : CmdWord} (hop : 2 ≤ (w.extractLsb' 33 4).toNat) :
    decodeHost w = .error (.illegalOp (w.extractLsb' 33 4)) := by
  unfold decodeHost
  split
  case h_1 h | h_2 h => omega
  case h_3 => rfl

/-- Settles O4: the fields of the word are quotients and remainders of the number. -/
theorem hostWordFieldsByArithmetic : Obligations.HostWordFieldsByArithmetic := by
  intro w
  have hop {n : Nat} (h : w.toNat / 2 ^ 33 = n) : w.extractLsb' 33 4 = BitVec.ofNat 4 n :=
    eq_ofNat_of_toNat_eq ((cmdWord_op_toNat w).trans h)
  rw [← cmdWord_addrSel_eq, ← cmdWord_f_eq]
  refine ⟨fun h => decodeHost_construct (hop h), fun ⟨h, has⟩ => decodeHost_setFrequency (hop h) ?_,
    fun ⟨h, has⟩ => decodeHost_reservedAddrSel (hop h) ?_, fun h => ?_⟩
  · rw [cmdWord_addrSel_eq, has]
    rfl
  · rw [cmdWord_addrSel_eq, has]
    rfl
  · rw [← hop rfl]
    exact decodeHost_illegalOp (by rwa [cmdWord_op_toNat])

/-- What decodes as a host command is the command's own word. -/
theorem encode_of_decodeHost {w : CmdWord} {i : Instr} (h : decodeHost w = .ok i) :
    encode i = .hcmd w ∧ i.wellFormed = true := by
  have hw := hostWord_eta w
  unfold decodeHost at h
  split at h
  case h_1 hop =>
    cases h
    rw [eq_ofNat_of_toNat_eq hop] at hw
    exact ⟨congrArg Word.hcmd hw, rfl⟩
  case h_2 hop =>
    split_ifs at h with has
    cases h
    rw [eq_ofNat_of_toNat_eq hop, Bool.eq_false_of_not_eq_true has] at hw
    exact ⟨congrArg Word.hcmd hw, rfl⟩
  case h_3 => cases h

/-! UOP. -/

theorem blockOfSelector_eq_some_iff {n : Byte} {blk : BlockId} : blockOfSelector n = some blk ↔ n = blk.selector := by
  constructor
  · intro h
    unfold blockOfSelector at h
    split at h <;> cases h <;> exact eq_ofNat_of_toNat_eq ‹_›
  · rintro rfl
    cases blk <;> rfl

theorem pllOfSelector_eq_some_iff {n : Byte} {p : Pll} : pllOfSelector n = some p ↔ n = p.selector := by
  constructor
  · intro h
    unfold pllOfSelector at h
    split at h <;> cases h <;> exact eq_ofNat_of_toNat_eq ‹_›
  · rintro rfl
    cases p <;> rfl

theorem clkOfSelector_eq_some_iff {n : Byte} {c : Clk} : clkOfSelector n = some c ↔ n = c.selector := by
  constructor
  · intro h
    unfold clkOfSelector at h
    split at h <;> cases h <;> exact eq_ofNat_of_toNat_eq ‹_›
  · rintro rfl
    cases c <;> rfl

@[simp] theorem blockOfSelector_selector (blk : BlockId) : blockOfSelector blk.selector = some blk :=
  blockOfSelector_eq_some_iff.mpr rfl

@[simp] theorem pllOfSelector_selector (p : Pll) : pllOfSelector p.selector = some p :=
  pllOfSelector_eq_some_iff.mpr rfl

@[simp] theorem clkOfSelector_selector (c : Clk) : clkOfSelector c.selector = some c :=
  clkOfSelector_eq_some_iff.mpr rfl

/-- An internal operation line with 0 in bits 7..4 is its three fields. -/
theorem uopWord_eta {w : UopWord} (h : w.extractLsb' 4 4 = 0) :
    uopWord (w.extractLsb' 16 8) (w.extractLsb' 8 8) (w.extractLsb' 0 4) = w := by
  have hpad := congrArg BitVec.toNat h
  rw [BitVec.extractLsb'_toNat, Nat.shiftRight_eq_div_pow] at hpad
  have hw := w.isLt
  apply BitVec.eq_of_toNat_eq
  rw [uopWord_toNat, BitVec.extractLsb'_toNat, BitVec.extractLsb'_toNat, BitVec.extractLsb'_toNat,
    Nat.shiftRight_eq_div_pow, Nat.shiftRight_eq_div_pow, Nat.shiftRight_eq_div_pow]
  have hzero : w.toNat / 2 ^ 4 % 2 ^ 4 = 0 := hpad
  omega

/-- What decodes as an internal operation is the operation's own word. -/
theorem encode_of_decodeUop {w : UopWord} {i : Instr} (h : decodeUop w = .ok i) :
    encode i = .uop w ∧ i.wellFormed = true := by
  simp only [decodeUop] at h
  split at h
  case isFalse => cases h
  case isTrue hpad =>
    rw [← uopWord_eta hpad]
    generalize w.extractLsb' 16 8 = a, w.extractLsb' 8 8 = b, w.extractLsb' 0 4 = code at h ⊢
    split at h
    case h_1 hc | h_2 hc | h_3 hc | h_4 hc =>
      obtain rfl := eq_ofNat_of_toNat_eq hc
      split_ifs at h with hab
      obtain ⟨rfl, rfl⟩ := hab
      cases h
      exact ⟨rfl, rfl⟩
    case h_5 hc =>
      obtain rfl := eq_ofNat_of_toNat_eq hc
      cases h
      exact ⟨rfl, rfl⟩
    case h_6 hc =>
      obtain rfl := eq_ofNat_of_toNat_eq hc
      split at h
      case h_1 blk hblk =>
        obtain rfl := blockOfSelector_eq_some_iff.mp hblk
        split_ifs at h with hextra
        cases h
        exact ⟨rfl, decide_eq_true hextra⟩
      case h_2 => cases h
    case h_7 hc =>
      obtain rfl := eq_ofNat_of_toNat_eq hc
      split at h
      case h_1 p hp =>
        obtain rfl := pllOfSelector_eq_some_iff.mp hp
        split_ifs at h with hb
        cases h
        rw [hb]
        exact ⟨rfl, rfl⟩
      case h_2 => cases h
    case h_8 hc =>
      obtain rfl := eq_ofNat_of_toNat_eq hc
      split at h
      case h_1 c hclk =>
        obtain rfl := clkOfSelector_eq_some_iff.mp hclk
        split_ifs at h with hb
        cases h
        rw [hb]
        exact ⟨rfl, rfl⟩
      case h_2 => cases h
    case h_9 => cases h

/-! BUSWR. -/

/-- The payloads that R64 classifies and R59 does not exclude. -/
def IsBlockPayload (reg val : Byte) : Prop :=
  (26 ≤ reg.toNat ∧ reg.toNat ≤ 65) ∨
  (reg.toNat = 177 ∧ (val = 0x20 ∨ val = 0x80)) ∨
  ((reg.toNat = 16 ∨ reg.toNat = 17 ∨ reg.toNat = 18) ∧ val = 0x4F)

/-- All that the decoder can make of a payload. -/
theorem decodeBus_cases (reg val : Byte) :
    (∃ i, decodeBus (busWord reg val) = .ok i ∧ encode i = .buswr (busWord reg val) ∧ i.wellFormed = true ∧
      IsBlockPayload reg val) ∨
    (decodeBus (busWord reg val) = .error (.notAWrite reg val) ∧ ¬ IsBlockPayload reg val) := by
  simp only [decodeBus, busWord_reg, busWord_val]
  split
  case h_1 hr | h_2 hr | h_3 hr =>
    obtain rfl := eq_ofNat_of_toNat_eq hr
    split_ifs with hv
    · subst hv
      exact .inl ⟨_, rfl, rfl, rfl, .inr (.inr ⟨by decide, rfl⟩)⟩
    · exact .inr ⟨rfl, by simp [IsBlockPayload, hv]⟩
  case h_44 hr =>
    obtain rfl := eq_ofNat_of_toNat_eq hr
    split_ifs with ha hb
    · subst ha
      exact .inl ⟨_, rfl, rfl, rfl, .inr (.inl ⟨rfl, .inl rfl⟩)⟩
    · subst hb
      exact .inl ⟨_, rfl, rfl, rfl, .inr (.inl ⟨rfl, .inr rfl⟩)⟩
    · exact .inr ⟨rfl, by simp [IsBlockPayload, ha, hb]⟩
  case h_45 =>
    refine .inr ⟨rfl, ?_⟩
    simp only [imp_false] at *
    rintro (⟨_, _⟩ | ⟨_, _⟩ | ⟨_ | _ | _, _⟩) <;> omega
  all_goals
    rename_i hr
    obtain rfl := eq_ofNat_of_toNat_eq hr
    exact .inl ⟨_, rfl, rfl, rfl, .inl (by decide)⟩

/-- What decodes as a bus write is the write's own payload. -/
theorem encode_of_decodeBus {w : BusWord} {i : Instr} (h : decodeBus w = .ok i) :
    encode i = .buswr w ∧ i.wellFormed = true := by
  rw [← busWord_eta w] at h ⊢
  rcases decodeBus_cases (w.extractLsb' 8 8) (w.extractLsb' 0 8) with ⟨j, hj, hword, hwf, -⟩ | ⟨herr, -⟩
  · obtain rfl : i = j := Except.ok.inj (h.symm.trans hj)
    exact ⟨hword, hwf⟩
  · cases h.symm.trans herr

/-- Settles O5: a payload of R64 decodes and any other does not. -/
theorem busPayloadsAreClassified : Obligations.BusPayloadsAreClassified := by
  intro reg val
  show _ ↔ IsBlockPayload reg val
  rcases decodeBus_cases reg val with ⟨i, hi, -, -, hp⟩ | ⟨herr, hp⟩
  · exact iff_of_true ⟨i, hi⟩ hp
  · exact iff_of_false (fun ⟨i, hi⟩ => by cases hi.symm.trans herr) hp

/-! The round trip. -/

/-- Settles O2, format by format. -/
theorem encodeOfDecodeIsTheWord : Obligations.EncodeOfDecodeIsTheWord
  | .hcmd _, _, h => encode_of_decodeHost h
  | .uop _, _, h => encode_of_decodeUop h
  | .buswr _, _, h => encode_of_decodeBus h

/-- Settles O1: the decoder reads from each instruction's word the fields the encoder laid out. -/
theorem decodeOfEncodeIsTheInstruction : Obligations.DecodeOfEncodeIsTheInstruction := by
  intro i hwf
  cases i with
  | construct a ref =>
    show decodeHost (hostWord 0 a ref) = _
    rw [decodeHost_construct (hostWord_op _ _ _), hostWord_addrSel, hostWord_f]
  | setFrequency t =>
    show decodeHost (hostWord 1 false t) = _
    rw [decodeHost_setFrequency (hostWord_op _ _ _) (hostWord_addrSel _ _ _), hostWord_f]
  | plan | encPll | encMs | pack8 => rfl
  | writeReg reg val => simp [encode, decode, decodeUop]
  | encodeAndWrite blk extra =>
    have hextra : extra.extractLsb' 0 2 = 0 := of_decide_eq_true hwf
    simp [encode, decode, decodeUop, hextra]
  | resetPll p => simp [encode, decode, decodeUop]
  | enableClock c => simp [encode, decode, decodeUop]
  | wrPllrstA | wrPllrstB | wrClk0En | wrClk1En | wrClk2En => rfl
  | _ v => exact decodeBus_of_fields fun w hreg hval => by simp [decodeBus, hreg, hval]

/-- Settles O3: each word is decoded. -/
theorem writtenOutWordsDecode : Obligations.WrittenOutWordsDecode := by
  unfold Obligations.WrittenOutWordsDecode
  decide

end Sys2Proof
end

section
/-! SUPPORT. PACK8 and UNPACK8 (30_encoding.md R54, R60): a field of a word cut into bytes, and joined again. -/

namespace Sys2Proof.Machine

/-- The bits of a word above a field that a mask keeps do not show in the field. -/
theorem bitsOf_and {mask : Word32} {lo n : Nat} (x : Word32) (h : mask.extractLsb' lo n = BitVec.allOnes n) :
    bitsOf (x &&& mask) lo n = bitsOf x lo n := by
  rw [bitsOf, BitVec.extractLsb'_and, h, BitVec.and_allOnes, bitsOf]

/-- The cut: a word whose bits from `n + 16` on are 0 is its three parts. -/
theorem bitsOf_join {n : Nat} {x : Word32} (h : x.toNat < 2 ^ (n + 8 + 8)) :
    (bitsOf x 16 n ++ bitsOf x 8 8 ++ bitsOf x 0 8).setWidth 32 = x := by
  have hjoin : bitsOf x 16 n ++ bitsOf x 8 8 ++ bitsOf x 0 8 = x.extractLsb' 0 (n + 8 + 8) := by
    simp only [bitsOf]
    rw [BitVec.extractLsb'_append_extractLsb'_eq_extractLsb' (show 16 = 8 + 8 from rfl),
      BitVec.extractLsb'_append_extractLsb'_eq_extractLsb' (show 8 = 0 + 8 from rfl)]
  apply BitVec.eq_of_toNat_eq
  rw [hjoin, BitVec.toNat_setWidth, BitVec.extractLsb'_toNat, Nat.shiftRight_zero, Nat.mod_eq_of_lt h,
    Nat.mod_eq_of_lt x.isLt]

section Joined

variable {n : Nat} (a : BitVec n) (b c : Byte)

theorem bitsOf_joined_low : bitsOf ((a ++ b ++ c).setWidth 32) 0 8 = c := by
  rw [bitsOf, BitVec.extractLsb'_setWidth_of_le (by decide), BitVec.extractLsb'_append_eq_right]

theorem bitsOf_joined_middle : bitsOf ((a ++ b ++ c).setWidth 32) 8 8 = b := by
  rw [bitsOf, BitVec.extractLsb'_setWidth_of_le (by decide), BitVec.extractLsb'_append_eq_of_le (by decide),
    BitVec.extractLsb'_append_eq_right]

theorem bitsOf_joined_high (hn : n ≤ 16) : bitsOf ((a ++ b ++ c).setWidth 32) 16 n = a := by
  rw [bitsOf, BitVec.extractLsb'_setWidth_of_le (by omega), BitVec.extractLsb'_append_eq_of_le (by decide),
    BitVec.extractLsb'_append_eq_left]

end Joined

/-- The two ends of a byte are the byte. -/
theorem nibbles_join (b : Byte) : b.extractLsb' 4 4 ++ b.extractLsb' 0 4 = b := by
  rw [BitVec.extractLsb'_append_extractLsb'_eq_extractLsb' (show 4 = 0 + 4 from rfl)]
  exact BitVec.extractLsb'_eq_self

/-- Byte 2 of a block is EXTRA in bits 7..2 and P1[17:16] in bits 1..0 (R54). -/
theorem extraByte_join (b : Byte) : (b &&& 0xFC) ||| (b.extractLsb' 0 2).setWidth 8 = b := by
  have hlow : (b.extractLsb' 0 2).setWidth 8 = b &&& 0x03 := by
    apply BitVec.eq_of_toNat_eq
    have hmask : b.toNat &&& 3 = b.toNat % 2 ^ 2 := Nat.and_two_pow_sub_one_eq_mod b.toNat 2
    simp [hmask]
    omega
  rw [hlow, ← BitVec.and_or_distrib_left]
  exact BitVec.and_allOnes

theorem extraByte_low {e : Byte} (he : e.toNat % 4 = 0) (x : BitVec 2) :
    (e ||| x.setWidth 8).extractLsb' 0 2 = x := by
  have hlow : e.extractLsb' 0 2 = 0#2 := BitVec.eq_of_toNat_eq he
  rw [BitVec.extractLsb'_or, hlow, BitVec.zero_or, BitVec.extractLsb'_setWidth_of_le (by decide),
    BitVec.extractLsb'_eq_self]

theorem extraByte_high {e : Byte} (he : e.toNat % 4 = 0) (x : BitVec 2) : (e ||| x.setWidth 8) &&& 0xFC = e := by
  have hx : ∀ y : BitVec 2, y.setWidth 8 &&& 0xFC#8 = 0#8 := by decide
  have hmask : e.toNat &&& 0xFC = 2 ^ 2 * (e.toNat / 2 ^ 2 % 2 ^ 6) := and_mask_shifted e.toNat 2 6
  have hkeep : e &&& 0xFC#8 = e := by
    apply BitVec.eq_of_toNat_eq
    have := e.isLt
    rw [BitVec.toNat_and]
    show e.toNat &&& 0xFC = e.toNat
    omega
  calc (e ||| x.setWidth 8) &&& 0xFC#8
      = (e &&& 0xFC#8) ||| (x.setWidth 8 &&& 0xFC#8) := BitVec.and_or_distrib_right
    _ = e := by rw [hx, hkeep, BitVec.or_zero]

theorem packBytes_masked (p1 p2 p3 : Word32) (e : Byte) :
    packBytes (p1 &&& 0x3FFFF) (p2 &&& 0xFFFFF) (p3 &&& 0xFFFFF) e = packBytes p1 p2 p3 e := by
  have h1 {lo n : Nat} := bitsOf_and (mask := 0x3FFFF) (lo := lo) (n := n) p1
  have h20 {lo n : Nat} (x : Word32) := bitsOf_and (mask := 0xFFFFF) (lo := lo) (n := n) x
  simp only [packBytes]
  rw [h1 (by decide), h1 (by decide), h1 (by decide), h20 _ (by decide), h20 _ (by decide), h20 _ (by decide),
    h20 _ (by decide), h20 _ (by decide), h20 _ (by decide)]

theorem unpack8_packBytes {p1 p2 p3 : Word32} {e : Byte} (h1 : p1.toNat < 2 ^ 18) (h2 : p2.toNat < 2 ^ 20)
    (h3 : p3.toNat < 2 ^ 20) (he : e.toNat % 4 = 0) : unpack8 (packBytes p1 p2 p3 e) = (⟨p1, p2, p3⟩, e) := by
  simp only [unpack8, packBytes, Prod.mk.injEq, Triple.mk.injEq]
  refine ⟨⟨?p1, ?p2, ?p3⟩, extraByte_high he _⟩
  case p1 =>
    rw [extraByte_low he]
    exact bitsOf_join h1
  case p2 =>
    rw [BitVec.extractLsb'_append_eq_right]
    exact bitsOf_join h2
  case p3 =>
    rw [BitVec.extractLsb'_append_eq_left]
    exact bitsOf_join h3

theorem packBytes_unpack8 (b : Buffer) :
    packBytes (unpack8 b).1.p1 (unpack8 b).1.p2 (unpack8 b).1.p3 (unpack8 b).2 = b := by
  obtain ⟨b0, b1, b2, b3, b4, b5, b6, b7⟩ := b
  simp only [packBytes, unpack8, Buffer.mk.injEq]
  refine ⟨bitsOf_joined_middle _ _ _, bitsOf_joined_low _ _ _, ?extra, bitsOf_joined_middle _ _ _,
    bitsOf_joined_low _ _ _, ?nibbles, bitsOf_joined_middle _ _ _, bitsOf_joined_low _ _ _⟩
  case extra =>
    rw [bitsOf_joined_high (b2.extractLsb' 0 2) b3 b4 (by decide), extraByte_join]
  case nibbles =>
    rw [bitsOf_joined_high (b5.extractLsb' 4 4) b0 b1 (by decide),
      bitsOf_joined_high (b5.extractLsb' 0 4) b6 b7 (by decide), nibbles_join]

/-- Settles O33: what UNPACK8 joins is what PACK8 cut, field by field, and PACK8 cuts no bit that the masks clear. -/
theorem unpackInvertsPack : Obligations.UnpackInvertsPack :=
  ⟨fun _ _ _ _ h1 h2 h3 he => unpack8_packBytes h1 h2 h3 he, packBytes_unpack8, packBytes_masked⟩

end Sys2Proof.Machine
end

section
/-! SUPPORT. The 45 kinds of bus write (30_encoding.md R64): each is the one two-byte transaction of R91. -/

namespace Sys2Proof.Machine

open Sys2Proof.Config

/-- A bus write is kept from every device register but its own. -/
theorem devSameExcept_of_write {s s' : State} {reg v : Byte}
    (h : s'.dev = s.dev.write (deviceKey s.cfg.devAddr reg) v) : s.devSameExcept s' s.cfg.devAddr [reg] := by
  intro a r hr
  show s'.dev.read _ = s.dev.read _
  rw [h]
  refine Memory.read_write_other _ _ _ _ fun hk => hr ?_
  obtain ⟨ha, hreg⟩ := deviceKey_injective hk
  exact ⟨ha, List.mem_singleton.mpr hreg⟩

theorem wroteOk_answerOk (reg val : Byte) (s : State) (rest : List BusRsp) :
    WroteOk s (answerOk reg val { s with rsps := rest }) reg val :=
  ⟨⟨rfl, rfl, rfl, rfl, rfl⟩, rfl, rfl, rfl, rfl, rfl, rfl, rfl, rfl, Memory.read_write_same _ _ _,
    devSameExcept_of_write (v := val) rfl⟩

theorem wroteErr_answerErr (reg val : Byte) (e : ErrT) (s : State) (rest : List BusRsp) :
    WroteErr s (answerErr reg val e { s with rsps := rest }) reg val e :=
  ⟨⟨rfl, rfl, rfl, rfl, rfl⟩, rfl, rfl, rfl, rfl, rfl, rfl, rfl, rfl,
    devSameExcept_of_write (v := lostWriteByte s.freeCount) rfl⟩

theorem writeHeld_holdRequest (reg val : Byte) (s : State) (rest : List BusRsp) :
    WriteHeld s (holdRequest reg val { s with rsps := rest }) reg val :=
  ⟨⟨rfl, rfl, rfl, rfl, rfl⟩, rfl, rfl, rfl, rfl, rfl, rfl, rfl, rfl, fun _ _ _ => rfl⟩

/-- An instruction whose meaning is a bus write of its own is that bus write, whatever the transport answers. -/
theorem isBusWrite_of_exec {i : Instr} {reg val : Byte} (h : ∀ s, exec i s = .next (busWrite reg val s).state) :
    IsBusWrite i reg val := by
  intro s
  rw [h]
  refine ⟨fun rest hr => ?_, fun e rest hr => ?_, fun rest hr => ?_, fun hr => ?_⟩
  · rw [busWrite_ok reg val hr]
    exact ⟨_, rfl, rfl, wroteOk_answerOk reg val s rest⟩
  · rw [busWrite_err reg val hr]
    exact ⟨_, rfl, rfl, wroteErr_answerErr reg val e s rest⟩
  · rw [busWrite_silent reg val hr]
    exact ⟨_, rfl, rfl, writeHeld_holdRequest reg val s rest⟩
  · rw [busWrite_unanswered reg val hr]
    exact ⟨_, rfl, hr, writeHeld_holdRequest reg val s s.rsps⟩

/-- Settles O42: the meaning of each kind is the bus write to its register of the PLL A block. -/
theorem pllABlockWrites : Obligations.PllABlockWrites := fun _ => by
  refine ⟨?_, ?_, ?_, ?_, ?_, ?_, ?_, ?_⟩ <;> exact isBusWrite_of_exec fun _ => rfl

/-- Settles O43: the meaning of each kind is the bus write to its register of the PLL B block. -/
theorem pllBBlockWrites : Obligations.PllBBlockWrites := fun _ => by
  refine ⟨?_, ?_, ?_, ?_, ?_, ?_, ?_, ?_⟩ <;> exact isBusWrite_of_exec fun _ => rfl

/-- Settles O44: the meaning of each kind is the bus write to its register of the MS0 block. -/
theorem ms0BlockWrites : Obligations.Ms0BlockWrites := fun _ => by
  refine ⟨?_, ?_, ?_, ?_, ?_, ?_, ?_, ?_⟩ <;> exact isBusWrite_of_exec fun _ => rfl

/-- Settles O45: the meaning of each kind is the bus write to its register of the MS1 block. -/
theorem ms1BlockWrites : Obligations.Ms1BlockWrites := fun _ => by
  refine ⟨?_, ?_, ?_, ?_, ?_, ?_, ?_, ?_⟩ <;> exact isBusWrite_of_exec fun _ => rfl

/-- Settles O46: the meaning of each kind is the bus write to its register of the MS2 block. -/
theorem ms2BlockWrites : Obligations.Ms2BlockWrites := fun _ => by
  refine ⟨?_, ?_, ?_, ?_, ?_, ?_, ?_, ?_⟩ <;> exact isBusWrite_of_exec fun _ => rfl

/-- Settles O47: the meaning of each kind is the bus write of its fixed value (R56, R57). -/
theorem fixedValueBusWrites : Obligations.FixedValueBusWrites := by
  refine ⟨?_, ?_, ?_, ?_, ?_⟩ <;> exact isBusWrite_of_exec fun _ => rfl

end Sys2Proof.Machine
end

section
/-! SUPPORT. What a host-driven step issues (R25, R59, D23): writes of a microprogram of 44_sequencer.md R103, addressed
to the configured device. -/

namespace Sys2Proof.Machine

open Sys2Proof.Config

/-- From `s` to `s'` the trace grows by writes of `ws` only, to the configured device, whatever their answers. -/
def Issues (ws : List (Byte × Byte)) (s s' : State) : Prop :=
  ∃ new, s'.trace = s.trace ++ new ∧ ∀ ev ∈ new, ev.a7 = s.cfg.devAddr ∧ (ev.reg, ev.val) ∈ ws

theorem Issues.mono {ws ws' : List (Byte × Byte)} {s s' : State} (h : Issues ws s s') (hs : ∀ w ∈ ws, w ∈ ws') :
    Issues ws' s s' := by
  obtain ⟨new, ht, hnew⟩ := h
  exact ⟨new, ht, fun ev hev => (hnew ev hev).imp_right (hs _)⟩

/-- Writes answered `Ok`. -/
theorem OkRun.issues {s s' : State} {ws : List (Byte × Byte)} (h : OkRun s s' ws) : Issues ws s s' := by
  refine ⟨_, h.trace, fun ev hev => ?_⟩
  obtain ⟨w, hw, rfl⟩ := List.mem_map.mp hev
  exact ⟨rfl, hw⟩

/-- Writes answered `Ok` and then one answered with an error. -/
theorem OkRun.issues_answerErr {s s1 : State} {ws : List (Byte × Byte)} {k : Nat} {w : Byte × Byte} {e : ErrT}
    (h : OkRun s s1 (ws.take k)) (hw : ws[k]? = some w) : Issues ws s (answerErr w.1 w.2 e s1) := by
  obtain ⟨hcfg, -⟩ := h.outside
  obtain ⟨new, ht, hnew⟩ := h.issues.mono fun w hw => List.mem_of_mem_take hw
  refine ⟨new ++ [errEvent s.cfg.devAddr e w], ?_, fun ev hev => ?_⟩
  · show s1.trace ++ [⟨s1.cfg.devAddr, w.1, w.2, .err e⟩] = _
    rw [ht, hcfg, List.append_assoc]
    rfl
  · rcases List.mem_append.mp hev with hev | hev
    · exact hnew ev hev
    · obtain rfl := List.mem_singleton.mp hev
      exact ⟨rfl, List.mem_of_getElem? hw⟩

/-- An operation enters nothing but its own writes in the trace, whatever the transport answers. -/
theorem Emits.issues {p : Progress} {s : State} {ws : List (Byte × Byte)} {Q : State → Prop} {R : Nat → State → Prop}
    (h : Emits p s ws Q R) : Issues ws s p.state := by
  obtain ⟨hall, herr, hwait⟩ := h
  rcases answers_split ws.length s.rsps with ⟨rest, hr⟩ | ⟨k, hk, hr⟩
  · obtain ⟨s', rfl, hrun, -⟩ := hall rest hr
    exact hrun.issues
  · have hw := List.getElem?_eq_getElem hk
    rcases hr with ⟨e, rest, hr⟩ | ⟨later, hu, hr⟩
    · obtain ⟨s1, rfl, hrun, -⟩ := herr k _ e rest hw hr
      exact hrun.issues_answerErr hw
    · obtain ⟨s1, rfl, hrun, -⟩ := hwait k _ later hw hu hr
      exact hrun.issues.mono fun w hw => List.mem_of_mem_take hw

theorem FinishesCommand.issues {n : Nat} {p : Progress} {s : State} (h : FinishesCommand n p s) :
    Issues s.micro s p.state :=
  (Emits.issues h).mono fun _ hw => List.mem_of_mem_drop hw

/-- The whole command, from its first block write on (R101, R103). -/
theorem finishesCommand_fromComputed {s : State} (hseq : s.seq = .computedParameters) (hw : s.widx.toNat = 0) :
    FinishesCommand 0 (runFromComputed s) s := by
  have hblock : InBlockWrite .pllA 0 (prepareBlock .pllA 0 (encPll s)) := by
    refine ⟨rfl, hseq, rfl, hw.symm, Nat.zero_le 8, ?_⟩
    rw [State.microBytes, micro_pllA]
    rfl
  refine (issuesWrites_encodeAndWrite .pllA hw hblock).andThen hw (by decide) (by decide) fun s' hs _ hw' => ?_
  have hq := hs.seq.trans hseq
  exact (finishesCommand_fromPllProgrammed (by rw [advance_computed hq]) (by simpa using hw')).of_bookkeeping
    (bookkeeping_advance (by simp [hq]))

/-- From `s` to `s'` only writes of one command's microprogram are issued, to the configured device (R103). -/
def IssuesMicro (s s' : State) : Prop := ∃ c : State, Issues c.micro s s'

theorem IssuesMicro.of_trace_eq {s s' : State} (h : s'.trace = s.trace) : IssuesMicro s s' :=
  ⟨s, [], by simp [h], fun _ hev => by cases hev⟩

theorem construct_trace (a : Bool) (ref : Word32) (s : State) : (construct a ref s).trace = s.trace := by
  unfold construct
  split_ifs <;> rfl

theorem setFrequency_issuesMicro (t : Word32) (s : State) : IssuesMicro s (setFrequency t s) := by
  unfold setFrequency
  split_ifs
  · exact .of_trace_eq rfl
  · exact .of_trace_eq rfl
  · exact .of_trace_eq rfl
  · exact ⟨_, (finishesCommand_fromComputed (s := advance (plan (acceptSetFrequency t s))) rfl rfl).issues⟩

theorem stepCommand_issuesMicro {w : CmdWord} {s s' : State} (hs : stepCommand w s = .next s') : IssuesMicro s s' := by
  rcases stepCommand_cases w s with hc | ⟨a, ref, hc⟩ | ⟨t, hc⟩ <;>
    obtain rfl := Host.Outcome.next.inj (hc.symm.trans hs)
  · exact .of_trace_eq rfl
  · exact .of_trace_eq (construct_trace a ref s)
  · exact setFrequency_issuesMicro t s

theorem State.Inv.busy_of_outstanding {s : State} {w : BusWord} (h : s.Inv) (hq : s.busReq = some w) :
    s.flags.busy = true := by
  by_contra hb
  simp [h.busReq_eq_none (by simpa using hb)] at hq

theorem stepRunning_issuesMicro {s s' : State} (h : s.Inv) (hs : stepRunning s = .next s') : IssuesMicro s s' := by
  rcases stepRunning_cases s with ⟨w, hq, hc⟩ | ⟨hq, hb, -⟩ | ⟨w, -, -, hu, -⟩ | ⟨w, rest, -, -, -, -, hc⟩ |
    ⟨-, -, -, -, hc⟩
  · obtain rfl := Host.Outcome.next.inj (hc.symm.trans hs)
    have hb := h.busy_of_outstanding hq
    obtain ⟨v, hv, hreq⟩ := h.outstanding hb
    obtain rfl : busWord v.1 v.2 = w := Option.some.inj (hreq.symm.trans hq)
    rw [busWord_reg, busWord_val, resume_busWrite]
    exact ⟨s, (h.finishesCommand hb hv).issues⟩
  · obtain ⟨v, -, hreq⟩ := h.outstanding hb
    simp [hreq] at hq
  · obtain ⟨huop, -⟩ := h
    simp [huop] at hu
  · exact stepCommand_issuesMicro (s := { s with cmds := rest }) (hc.symm.trans hs)
  · obtain rfl := Host.Outcome.next.inj (hc.symm.trans hs)
    exact .of_trace_eq rfl

/-- Every step of the machine driven from its host port issues writes of one command's microprogram only: reset issues
none, and a running step is the rest of a waiting command, a presented command, or nothing. -/
theorem step_issuesMicro {s s' : State} (h : s.Inv) (hs : step s = .next s') : IssuesMicro s s' := by
  by_cases hr : s.rst.head? = some true
  · obtain ⟨rest, hrst⟩ := List.head?_eq_some_iff.mp hr
    have hc : step s = .next (resetEvent { s with rst := rest }) := by simp [step, hrst]
    obtain rfl := Host.Outcome.next.inj (hc.symm.trans hs)
    exact .of_trace_eq (resetEvent_trace _)
  · rw [step_running hr] at hs
    exact stepRunning_issuesMicro (s := { s with rst := s.rst.tail }) h hs

/-- R103 against R59: each write of a microprogram goes to a register a SET_FREQUENCY writes and carries a value R59
allows there; the one restricted byte of a block is its byte 2, which holds P1[17:16] and EXTRA = 0. -/
theorem micro_emittable (s : State) : ∀ w ∈ s.micro, hostReachable w.1 = true ∧ emittable w.1 w.2 = true := by
  have hextra : ∀ x : BitVec 2, (x.setWidth 8).extractLsb' 2 6 = 0#6 := by decide
  simp [State.micro, microprogram, hostReachable, emittable, hextra]

/-- Settles O56: what a step issues is writes of a microprogram, and those are R59's. -/
theorem everyIssuedWriteIsEmittable : Obligations.EveryIssuedWriteIsEmittable := by
  intro s s' h hs
  obtain ⟨c, new, htrace, hnew⟩ := step_issuesMicro h hs
  refine ⟨new, htrace, fun ev hev => ?_⟩
  obtain ⟨ha, hmem⟩ := hnew ev hev
  exact ⟨ha, micro_emittable c _ hmem⟩

end Sys2Proof.Machine
end

section
/-! SUPPORT. The planner's arithmetic (40_freq_planner.md R70 to R76): the divider is the largest even number whose
product with the target stays at or below PLL_MAX_HZ, and everything about its size is read off that. -/

namespace Sys2Proof.Machine

theorem makeEven_eq (n : Nat) : makeEven n = n - n % 2 := by
  unfold makeEven
  split <;> omega

theorem planDivider_eq {t : Nat} (ht : t ≠ 0) : planDivider t = 900000000 / t - 900000000 / t % 2 := by
  rw [planDivider, makeEven_eq, divOf_pos _ ht, pllMaxHz]

theorem planDivider_even (t : Nat) : planDivider t % 2 = 0 := by
  rw [planDivider, makeEven_eq]
  omega

/-- R71: no even number above the divider has a product at or below PLL_MAX_HZ, and none up to it has a greater one. -/
theorem le_planDivider_iff {t k : Nat} (ht : t ≠ 0) (hk : k % 2 = 0) :
    k ≤ planDivider t ↔ k * t ≤ 900000000 := by
  rw [planDivider_eq ht, ← Nat.le_div_iff_mul_le (Nat.pos_of_ne_zero ht)]
  generalize 900000000 / t = q
  omega

theorem planPll_le {t : Nat} (ht : t ≠ 0) : planPll t ≤ 900000000 :=
  (le_planDivider_iff ht (planDivider_even t)).mp le_rfl

theorem lt_planDivider_add_two_mul {t : Nat} (ht : t ≠ 0) : 900000000 < (planDivider t + 2) * t := by
  have heven := planDivider_even t
  have hnext := le_planDivider_iff (k := planDivider t + 2) ht (by omega)
  omega

theorem planDivider_eq_zero_iff {t : Nat} (ht : t ≠ 0) : planDivider t = 0 ↔ 450000000 < t := by
  have heven := planDivider_even t
  have htwo := le_planDivider_iff (k := 2) ht rfl
  omega

theorem planDivider_le {t : Nat} (ht : t ≠ 0) : planDivider t ≤ 900000000 :=
  (Nat.le_mul_of_pos_right _ (Nat.pos_of_ne_zero ht)).trans (planPll_le ht)

/-- Settles O24: what R71 says of the divider is `le_planDivider_iff` at d, d + 2 and 2. -/
theorem dividerIsEvenAndTight : Obligations.DividerIsEvenAndTight := by
  intro t ht
  have ht : t ≠ 0 := by omega
  exact ⟨planDivider_even t, planPll_le ht, lt_planDivider_add_two_mul ht, planDivider_eq_zero_iff ht⟩

/-- Settles O25: R72's quotient reaches 256 when the product reaches 256 references, and the product is at most
PLL_MAX_HZ. -/
theorem multiplierOverflowsOnlyBelowAReference : Obligations.MultiplierOverflowsOnlyBelowAReference := by
  intro t ref ht href
  have hiff : 255 < planPll t / ref ↔ 256 * ref ≤ planPll t := Nat.le_div_iff_mul_le href
  have hle := planPll_le (t := t) (by omega)
  exact ⟨hiff, fun h => by have := hiff.mp h; omega⟩

theorem numExact_eq (rem : Nat) {ref : Nat} (h : ref ≠ 0) : numExact rem ref = rem * 1048575 / ref :=
  divOf_pos _ h

/-- R73, D5: of a remainder the exact arithmetic makes a numerator below the denominator. -/
theorem numExact_lt {rem ref : Nat} (h : rem < ref) : numExact rem ref < 1048575 := by
  rw [numExact_eq rem (by omega), Nat.div_lt_iff_lt_mul (by omega)]
  omega

/-- R73: the register holds the exact numerator uncut. -/
theorem numArith_byRule_toNat {rem ref : Nat} (h : rem < ref) :
    (numArith .byRule rem ref).toNat = rem * 1048575 / ref := by
  rw [numArith, BitVec.toNat_ofNat, Nat.mod_eq_of_lt ((numExact_lt h).trans (by decide)), numExact_eq rem (by omega)]

/-- Settles O26: `numExact_lt`, and a quotient is zero when the dividend is below the divisor. -/
theorem numStaysBelowTheDenominator : Obligations.NumStaysBelowTheDenominator := by
  intro rem ref h
  refine ⟨Nat.le_of_lt_succ (numExact_lt h), ?_⟩
  have href : ref ≠ 0 := by omega
  rw [numExact_eq rem href, Nat.div_eq_zero_iff, or_iff_right href]

/-- R76: a target of at most 225 000 000 has a product above 450 000 000. -/
theorem lt_planPll {t : Nat} (ht : t ≠ 0) (hmax : t ≤ 225000000) : 450000000 < planPll t := by
  have hnext := lt_planDivider_add_two_mul ht
  rw [Nat.add_mul] at hnext
  unfold planPll
  omega

/-- Settles O27: the product lies between 450 000 000 and 900 000 000, so such a reference goes into it 4 to 255 times;
the divider's range is `le_planDivider_iff` at 4 and at 2052. -/
theorem exactDomainForUsualReferences : Obligations.ExactDomainForUsualReferences := by
  intro t ref hmin hmax href href'
  have ht : t ≠ 0 := by omega
  have hpos : 0 < ref := by omega
  have hle := planPll_le ht
  have hlt := lt_planPll ht hmax
  have hupper : planPll t / ref < 256 := by
    rw [Nat.div_lt_iff_lt_mul hpos]
    omega
  have hlower : 4 ≤ planPll t / ref := by
    rw [Nat.le_div_iff_mul_le hpos]
    omega
  have heven := planDivider_even t
  have hfour := le_planDivider_iff (k := 4) ht rfl
  have hnext := le_planDivider_iff (k := 2052) ht rfl
  exact ⟨⟨hmin, hmax, hpos, by omega, hlower⟩, by omega, by omega⟩

end Sys2Proof.Machine
end

section
/-! SUPPORT. The operations that compute (R70, R80, R85, R90): the registers PLAN writes, as numbers, and the registers
that PLAN and the encoders leave as they were. -/

namespace Sys2Proof.Machine

/-- R70: PLAN writes six of the datapath registers. -/
theorem plan_x_of_notMem (s : State) {r : Reg} (hr : r ∉ [Reg.d, .pllf, .mult, .rem, .num, .den]) :
    (plan s).x r = s.x r := by
  cases r with
  | d | pllf | mult | rem | num | den => exact absurd (by decide) hr
  | tf | p1 | p2 | p3 | base | extra | off => rfl

/-- R80, R85: the encoders write the triple. -/
theorem setTriple_x_of_notMem (tr : Triple) (s : State) {r : Reg} (hr : r ∉ [Reg.p1, .p2, .p3]) :
    (setTriple tr s).x r = s.x r := by
  cases r with
  | p1 | p2 | p3 => exact absurd (by decide) hr
  | tf | d | pllf | mult | rem | num | den | base | extra | off => rfl

/-- Settles O23: each of the four operations is one update of the datapath or the buffer. -/
theorem computingOperationsFrame : Obligations.ComputingOperationsFrame := fun s =>
  ⟨⟨plan s, rfl, rfl, fun _ => plan_x_of_notMem s⟩,
    ⟨encPll s, rfl, rfl, fun _ => setTriple_x_of_notMem _ s⟩,
    ⟨encMs s, rfl, rfl, fun _ => setTriple_x_of_notMem _ s⟩,
    ⟨pack8 s, rfl, rfl⟩⟩

section Planned

variable {s : State}

theorem plan_x_d (ht : s.x .tf ≠ 0) : (plan s).x .d = planDivider (s.x .tf) :=
  Nat.mod_eq_of_lt ((planDivider_le ht).trans_lt (by decide))

theorem plan_x_pllf (ht : s.x .tf ≠ 0) : (plan s).x .pllf = planPll (s.x .tf) :=
  Nat.mod_eq_of_lt ((planPll_le ht).trans_lt (by decide))

theorem plan_x_mult (href : s.cfg.refFreq.toNat ≠ 0) :
    (plan s).x .mult = planPll (s.x .tf) / s.cfg.refFreq.toNat % 256 := by
  have hdp : (plan s).x .mult = divOf (planPll (s.x .tf)) s.cfg.refFreq.toNat % 256 := rfl
  rw [hdp, divOf_pos _ href]

theorem plan_x_rem (href : s.cfg.refFreq.toNat ≠ 0) :
    (plan s).x .rem = planPll (s.x .tf) % s.cfg.refFreq.toNat := by
  have hdp : (plan s).x .rem = modOf (planPll (s.x .tf)) s.cfg.refFreq.toNat % 2 ^ 32 := rfl
  have hlt := (Nat.mod_lt (planPll (s.x .tf)) (Nat.pos_of_ne_zero href)).trans s.cfg.refFreq.isLt
  rw [hdp, modOf_pos _ href, Nat.mod_eq_of_lt hlt]

theorem plan_x_num (href : s.cfg.refFreq.toNat ≠ 0) (hnum : s.params.numArith = .byRule) :
    (plan s).x .num = (plan s).x .rem * 1048575 / s.cfg.refFreq.toNat := by
  have hdp : (plan s).x .num = (numArith s.params.numArith
      (modOf (planPll (s.x .tf)) s.cfg.refFreq.toNat) s.cfg.refFreq.toNat).toNat := rfl
  rw [hdp, hnum, modOf_pos _ href, plan_x_rem href,
    numArith_byRule_toNat (Nat.mod_lt _ (Nat.pos_of_ne_zero href))]

theorem plan_x_den : (plan s).x .den = 1048575 := rfl

end Planned

/-- Settles O22: no value but the multiplier is cut by its register's width, since the divider and the product are at
most PLL_MAX_HZ, the remainder is below the reference and num below the denominator. -/
theorem planResult : Obligations.PlanResult := by
  intro s htf href hnum
  have ht : s.x .tf ≠ 0 := fun h => htf (BitVec.eq_of_toNat_eq h)
  have href : s.cfg.refFreq.toNat ≠ 0 := fun h => href (BitVec.eq_of_toNat_eq h)
  have hpllf : (plan s).x .pllf = (plan s).x .d * s.x .tf := by
    rw [plan_x_pllf ht, plan_x_d ht, planPll]
  refine ⟨plan s, rfl, ?_, hpllf, ?_, ?_, plan_x_num href hnum, plan_x_den, rfl, fun _ => plan_x_of_notMem s⟩
  · rw [plan_x_d ht, planDivider_eq ht]
  · rw [plan_x_mult href, plan_x_pllf ht]
  · rw [plan_x_rem href, plan_x_pllf ht]

end Sys2Proof.Machine
end

section
/-! SUPPORT. ENC_PLL (41_pll_param_encoder.md R80, R81): the triple as numbers. P1 is the one value that can be negative
before it is wrapped; P2 is a remainder, and P3 is the denominator itself. -/

namespace Sys2Proof.Machine

/-- R7: subtracting 512 before `wrap32` adds 2^32 - 512 modulo 2^32. -/
theorem wrap32_sub_512_toNat (n : Nat) : (wrap32 (n - 512)).toNat = (n + (2 ^ 32 - 512)) % 2 ^ 32 := by
  rw [wrap32, BitVec.toNat_ofInt]
  omega

/-- R7: a value that fits is not changed by `wrap32`. -/
theorem wrap32_toNat_of_lt {n : Nat} (h : n < 2 ^ 32) : (wrap32 n).toNat = n := by
  rw [wrap32, BitVec.ofInt_natCast, BitVec.toNat_ofNat, Nat.mod_eq_of_lt h]

section Triple

variable (mult : Byte) (num : Word32) {den : Word32}

theorem encPllByRule_p1_toNat (h : den.toNat ≠ 0) : (encPllByRule mult num den).p1.toNat =
    (128 * mult.toNat + 128 * num.toNat / den.toNat + (2 ^ 32 - 512)) % 2 ^ 32 := by
  rw [← wrap32_sub_512_toNat, encPllByRule, pllFloor, divOf_pos _ h]
  push_cast
  rfl

/-- R80: the remainder is below the denominator, so P2 is not cut. -/
theorem encPllByRule_p2_toNat (h : den.toNat ≠ 0) :
    (encPllByRule mult num den).p2.toNat = 128 * num.toNat % den.toNat := by
  have hlt := (Nat.mod_lt (128 * num.toNat) (Nat.pos_of_ne_zero h)).trans den.isLt
  rw [encPllByRule, pllRest, modOf_pos _ h, wrap32_toNat_of_lt hlt]

@[simp] theorem encPllByRule_p3 (den : Word32) : (encPllByRule mult num den).p3 = den := rfl

/-- R81: in the exact domain P1 + 512 is the sum R80 forms, without wrap. -/
theorem encPllByRule_p1_toNat_add_512 (h : den.toNat ≠ 0) (hmult : 4 ≤ mult.toNat) (hnum : num.toNat < den.toNat) :
    (encPllByRule mult num den).p1.toNat + 512 = 128 * mult.toNat + 128 * num.toNat / den.toNat := by
  have hq : 128 * num.toNat / den.toNat < 128 := by
    rw [Nat.div_lt_iff_lt_mul (Nat.pos_of_ne_zero h)]
    omega
  rw [encPllByRule_p1_toNat mult num h]
  generalize 128 * num.toNat / den.toNat = q at hq
  omega

end Triple

/-- Settles O28: with the default mapping the state holds R80's triple. -/
theorem encPllResult : Obligations.EncPllResult := by
  intro s hden hrule
  have h : s.dp.den.toNat ≠ 0 := fun h => hden (BitVec.eq_of_toNat_eq h)
  have hs : encPll s = setTriple (encPllByRule s.dp.mult s.dp.num s.dp.den) s := by
    rw [encPll, hrule, encPllOf]
  exact ⟨setTriple (encPllByRule s.dp.mult s.dp.num s.dp.den) s, congrArg Host.Outcome.next hs,
    encPllByRule_p1_toNat s.dp.mult s.dp.num h, encPllByRule_p2_toNat s.dp.mult s.dp.num h, rfl⟩

/-- Settles O29: the law is Euclidean division of 128 * num by the denominator, with P1 + 512 the quotient plus
128 * mult and P2 the remainder. -/
theorem pllTripleIsExactInTheDomain : Obligations.PllTripleIsExactInTheDomain := by
  intro mult num hmult hnum
  have h : (1048575 : Word32).toNat = 1048575 := rfl
  have hp1 := encPllByRule_p1_toNat_add_512 mult num (den := 1048575) (by decide) hmult (by omega)
  have hp2 := encPllByRule_p2_toNat mult num (den := 1048575) (by decide)
  rw [h] at hp1 hp2
  exact ⟨by omega, by omega, h, by rw [encPllByRule_p3, h]; omega⟩

end Sys2Proof.Machine
end

section
/-! SUPPORT. ENC_MS (42_multisynth_encoder.md R85, R86): the triple as numbers, and the block it is packed into. P2 = 0
and P3 = 1 fix five of the eight bytes; of P1 the block holds the bits below 18, and the exact domain needs no others. -/

namespace Sys2Proof.Machine

/-- R6: a field of a word as a number. -/
theorem bitsOf_toNat (x : Word32) (lo n : Nat) : (bitsOf x lo n).toNat = x.toNat / 2 ^ lo % 2 ^ n := by
  rw [bitsOf, BitVec.extractLsb'_toNat, Nat.shiftRight_eq_div_pow]

theorem encMsByRule_p1_toNat (d : Word32) :
    (encMsByRule d).p1.toNat = (128 * d.toNat + (2 ^ 32 - 512)) % 2 ^ 32 := by
  rw [← wrap32_sub_512_toNat, encMsByRule]
  push_cast
  rfl

/-- R86: for an even divider of the exact domain P1 is a multiple of 256, without wrap. -/
theorem encMsByRule_p1_toNat_of_even {d : Word32} (heven : d.toNat % 2 = 0) (hmin : 4 ≤ d.toNat)
    (hmax : d.toNat ≤ 2050) : (encMsByRule d).p1.toNat = 256 * ((d.toNat - 4) / 2) := by
  rw [encMsByRule_p1_toNat]
  omega

/-- R54: the block of an integer ratio (P2 = 0, P3 = 1) without EXTRA shows P1's fields only. -/
theorem packBytes_integer (p1 : Word32) : packBytes p1 0 1 0 =
    ⟨0x00, 0x01, (bitsOf p1 16 2).setWidth 8, bitsOf p1 8 8, bitsOf p1 0 8, 0x00, 0x00, 0x00⟩ := by
  have hextra : 0 ||| (bitsOf p1 16 2).setWidth 8 = (bitsOf p1 16 2).setWidth 8 := BitVec.zero_or
  rw [packBytes, hextra]
  rfl

/-- R54: a P1 that is 256 times an `h` of ten bits has `h` in the two bytes above a zero byte. -/
theorem packBytes_integer_of_multiple {p1 : Word32} {h : Nat} (hp1 : p1.toNat = 256 * h) (hlt : h < 2 ^ 10) :
    packBytes p1 0 1 0 =
      ⟨0x00, 0x01, BitVec.ofNat 8 (h / 256), BitVec.ofNat 8 (h % 256), 0x00, 0x00, 0x00, 0x00⟩ := by
  have hhigh : (bitsOf p1 16 2).setWidth 8 = BitVec.ofNat 8 (h / 256) := by
    apply BitVec.eq_of_toNat_eq
    rw [BitVec.toNat_setWidth, bitsOf_toNat, hp1, BitVec.toNat_ofNat]
    omega
  have hmid : bitsOf p1 8 8 = BitVec.ofNat 8 (h % 256) := by
    apply BitVec.eq_of_toNat_eq
    rw [bitsOf_toNat, hp1, BitVec.toNat_ofNat]
    omega
  have hlow : bitsOf p1 0 8 = 0x00 := by
    apply BitVec.eq_of_toNat_eq
    rw [bitsOf_toNat, hp1, Nat.pow_zero, Nat.div_one]
    exact Nat.mul_mod_right 256 h
  rw [packBytes_integer, hhigh, hmid, hlow]

/-- Settles O30: with the default mapping the state holds R85's triple. -/
theorem encMsResult : Obligations.EncMsResult := by
  intro s hrule
  have hs : encMs s = setTriple (encMsByRule s.dp.d) s := by
    rw [encMs, hrule, encMsOf]
  exact ⟨setTriple (encMsByRule s.dp.d) s, congrArg Host.Outcome.next hs, encMsByRule_p1_toNat s.dp.d, rfl, rfl⟩

/-- Settles O31: P1 is 256 * ((d - 4) / 2), and (d - 4) / 2 has at most ten bits. -/
theorem multisynthBlockInTheDomain : Obligations.MultisynthBlockInTheDomain := by
  intro d heven hmin hmax
  have hd : (BitVec.ofNat 32 d).toNat = d := Nat.mod_eq_of_lt (by omega)
  have hp1 := encMsByRule_p1_toNat_of_even (d := BitVec.ofNat 32 d)
  rw [hd] at hp1
  exact packBytes_integer_of_multiple (hp1 heven hmin hmax) (by omega)

end Sys2Proof.Machine
end

section
/-! SUPPORT. PACK8's eight bytes as numbers (30_encoding.md R54, R90), and the three operations that are one bus write
(43_register_pack_write.md R91, R93, R94). -/

namespace Sys2Proof.Machine

theorem bitsOf_low_toNat (x : Word32) (n : Nat) : (bitsOf x 0 n).toNat = x.toNat % 2 ^ n := by
  rw [bitsOf_toNat, Nat.pow_zero, Nat.div_one]

/-- R54: byte 5 holds P3[19:16] above P2[19:16]. -/
theorem nibbles_append_toNat (x y : BitVec 4) : (x ++ y).toNat = 16 * x.toNat + y.toNat := by
  rw [BitVec.toNat_append, ← Nat.shiftLeft_add_eq_or_of_lt y.isLt, Nat.shiftLeft_eq, Nat.mul_comm]

/-- Settles O32: each byte is a field of a word, and the two bytes made of two fields join them as numbers. -/
theorem pack8Result : Obligations.Pack8Result := by
  intro s
  refine ⟨packBytes s.dp.p1 s.dp.p2 s.dp.p3 s.dp.extra, rfl, bitsOf_toNat _ 8 8, bitsOf_low_toNat _ 8, ?extra,
    bitsOf_toNat _ 8 8, bitsOf_low_toNat _ 8, ?nibbles, bitsOf_toNat _ 8 8, bitsOf_low_toNat _ 8⟩
  case extra =>
    show (s.dp.extra ||| (bitsOf s.dp.p1 16 2).setWidth 8).toNat = _
    rw [BitVec.toNat_or, BitVec.toNat_setWidth_of_le (by decide), bitsOf_toNat]
    rfl
  case nibbles =>
    show (bitsOf s.dp.p3 16 4 ++ bitsOf s.dp.p2 16 4).toNat = _
    rw [nibbles_append_toNat, bitsOf_toNat, bitsOf_toNat]
    rfl

/-- Settles O35: its meaning is the bus write of its operands. -/
theorem writeRegIsOneBusWrite : Obligations.WriteRegIsOneBusWrite := fun _ _ => isBusWrite_of_exec fun _ => rfl

/-- Settles O36: it is the WRITE_REG of the PLL's reset pattern (R56). -/
theorem resetPllWritesTheFixedPattern : Obligations.ResetPllWritesTheFixedPattern :=
  ⟨isBusWrite_of_exec fun _ => rfl, isBusWrite_of_exec fun _ => rfl⟩

/-- Settles O37: it is the WRITE_REG of the CLK control byte (R57) to the output's control register (R19). -/
theorem enableClockWritesTheFixedByte : Obligations.EnableClockWritesTheFixedByte :=
  ⟨isBusWrite_of_exec fun _ => rfl, isBusWrite_of_exec fun _ => rfl, isBusWrite_of_exec fun _ => rfl⟩

end Sys2Proof.Machine
end

section
/-! SUPPORT. What an operation does not read it does not look at (R91): a change of the state that commutes with the
bus write and with the operations between two writes commutes with the rest of an operation and of a command. -/

namespace Sys2Proof.Machine

open Sys2Proof.Config

/-- An operation's way of leaving the block, with its state changed by `f`. -/
def Progress.map (f : State → State) : Progress → Progress
  | .completed s => .completed (f s)
  | .raised s => .raised (f s)
  | .waiting s => .waiting (f s)

@[simp] theorem Progress.state_map (f : State → State) (p : Progress) : (p.map f).state = f p.state := by
  cases p <;> rfl

theorem Progress.andThen_map {f : State → State} {g : State → Progress} (h : ∀ s, g (f s) = (g s).map f)
    (p : Progress) : (p.map f).andThen g = (p.andThen g).map f := by
  cases p with
  | completed s => exact h s
  | raised s => rfl
  | waiting s => rfl

/-- `f` changes nothing that the rest of an operation or of a command reads. -/
structure Unread (f : State → State) : Prop where
  buf : ∀ s, (f s).buf = s.buf
  dp : ∀ s, (f s).dp = s.dp
  seq : ∀ s, (f s).seq = s.seq
  busy : ∀ s, (f s).flags.busy = s.flags.busy
  busReq : ∀ s, (f s).busReq = s.busReq
  inBlock : ∀ s, (f s).inBlock = s.inBlock
  bus : ∀ reg val s, busWrite reg val (f s) = (busWrite reg val s).map f
  stepOff : ∀ s, stepOff (f s) = f (stepOff s)
  closeBlock : ∀ s, closeBlock (f s) = f (closeBlock s)
  prepareBlock : ∀ blk extra s, prepareBlock blk extra (f s) = f (prepareBlock blk extra s)
  plan : ∀ s, plan (f s) = f (plan s)
  encPll : ∀ s, encPll (f s) = f (encPll s)
  encMs : ∀ s, encMs (f s) = f (encMs s)
  advance : ∀ s, advance (f s) = f (advance s)

namespace Unread

variable {f : State → State} (u : Unread f)

include u

theorem writeBytes (l : List Byte) : ∀ s, writeBytes l (f s) = (writeBytes l s).map f := by
  induction l with
  | nil => exact fun s => congrArg Progress.completed (u.closeBlock s)
  | cons v l ih =>
    intro s
    rw [writeBytes_cons, writeBytes_cons, u.dp, u.bus]
    exact Progress.andThen_map (fun s1 => by rw [u.stepOff, ih]) _

theorem encodeAndWrite (blk : BlockId) (extra : Byte) (s : State) :
    encodeAndWrite blk extra (f s) = (encodeAndWrite blk extra s).map f := by
  simp only [Machine.encodeAndWrite]
  rw [u.prepareBlock, u.buf, u.writeBytes]

theorem runFromPllReset (s : State) : runFromPllReset (f s) = (runFromPllReset s).map f := by
  show (busWrite _ _ (f s)).andThen _ = _
  rw [u.bus]
  exact Progress.andThen_map (fun s1 => by rw [u.advance, Progress.map]) _

theorem runFromMultisynth (s : State) : runFromMultisynth (f s) = (runFromMultisynth s).map f := by
  show (busWrite _ _ (f s)).andThen _ = _
  rw [u.bus]
  exact Progress.andThen_map (fun s1 => by rw [u.advance, u.runFromPllReset]) _

theorem runFromPllProgrammed (s : State) : runFromPllProgrammed (f s) = (runFromPllProgrammed s).map f := by
  unfold Machine.runFromPllProgrammed
  rw [u.encMs, u.encodeAndWrite]
  exact Progress.andThen_map (fun s1 => by rw [u.advance, u.runFromMultisynth]) _

theorem runFromComputed (s : State) : runFromComputed (f s) = (runFromComputed s).map f := by
  unfold Machine.runFromComputed
  rw [u.encPll, u.encodeAndWrite]
  exact Progress.andThen_map (fun s1 => by rw [u.advance, u.runFromPllProgrammed]) _

theorem runSequence (s : State) : runSequence (f s) = (runSequence s).map f := by
  unfold Machine.runSequence
  rw [u.seq]
  split
  · rw [Machine.runFromIdle, u.plan, u.advance, u.runFromComputed]
    rfl
  · exact u.runFromComputed s
  · exact u.runFromPllProgrammed s
  · exact u.runFromMultisynth s
  · exact u.runFromPllReset s
  · rfl
  · rfl

theorem finishOperation (s : State) : finishOperation (f s) = (finishOperation s).map f := by
  cases hi : s.inBlock with
  | true =>
    rw [finishOperation_inBlock ((u.inBlock s).trans hi), finishOperation_inBlock hi, u.stepOff, u.buf, u.dp,
      u.writeBytes]
  | false => rw [finishOperation_closed ((u.inBlock s).trans hi), finishOperation_closed hi, Progress.map]

theorem finishCommand (s : State) : finishCommand (f s) = (finishCommand s).map f := by
  unfold Machine.finishCommand
  simp only [u.advance, u.busy]
  split_ifs
  · exact u.runSequence _
  · rfl
  · rfl

theorem resume (s : State) : resume (f s) = f (resume s) := by
  cases hq : s.busReq with
  | some w => rw [resume_waiting ((u.busReq s).trans hq), resume_waiting hq]
  | none =>
    rw [resume_answered ((u.busReq s).trans hq), resume_answered hq, u.finishOperation,
      Progress.andThen_map u.finishCommand, Progress.state_map]

end Unread

/-- What the host presents and what stands on the lone operation line, put in place of what is there. -/
def State.present (presented : List CmdWord) (lone : Option UopWord) (s : State) : State :=
  { s with cmds := presented, uop := lone }

theorem busWrite_present (presented : List CmdWord) (lone : Option UopWord) (reg val : Byte) (s : State) :
    busWrite reg val (s.present presented lone) = (busWrite reg val s).map (State.present presented lone) := by
  rcases busWrite_cases reg val s with ⟨rest, hr, hc⟩ | ⟨e, rest, hr, hc⟩ | ⟨rest, hr | ⟨hr, rfl⟩, hc⟩ <;> rw [hc]
  · exact busWrite_ok reg val hr
  · exact busWrite_err reg val hr
  · exact busWrite_silent reg val hr
  · rw [← hr]
    exact busWrite_unanswered reg val hr

/-- R91: neither the commands presented nor the lone operation line is read before the operation and the command in
progress have ended. -/
theorem unread_present (presented : List CmdWord) (lone : Option UopWord) : Unread (State.present presented lone) where
  buf _ := rfl
  dp _ := rfl
  seq _ := rfl
  busy _ := rfl
  busReq _ := rfl
  inBlock _ := rfl
  bus := busWrite_present presented lone
  stepOff _ := rfl
  closeBlock _ := rfl
  prepareBlock _ _ _ := rfl
  plan _ := rfl
  encPll _ := rfl
  encMs _ := rfl
  advance s := by
    unfold advance
    cases hq : s.seq <;> simp only [State.present, hq]

/-- The look at the outstanding write and what follows it depend on neither. -/
theorem step_present {s : State} {w : BusWord} (hq : s.busReq = some w) (hr : s.rst.head? ≠ some true)
    (presented : List CmdWord) (lone : Option UopWord) {s' : State} (hs : step s = .next s') :
    step (s.present presented lone) = .next (s'.present presented lone) := by
  obtain rfl := Host.Outcome.next.inj ((step_outstanding hq hr).symm.trans hs)
  have u := unread_present presented lone
  rw [step_outstanding (s := s.present presented lone) hq hr, ← u.resume,
    ← Progress.state_map (State.present presented lone), ← u.bus]
  rfl

/-- Settles O9: with what is presented replaced by itself, `step_present` says that both stay where they are. -/
theorem nothingElseRunsWhileAWriteIsOutstanding : Obligations.NothingElseRunsWhileAWriteIsOutstanding := by
  intro s w hq hr
  have hs := step_outstanding hq hr
  have hsame := Host.Outcome.next.inj (hs.symm.trans (step_present hq hr s.cmds s.uop hs))
  refine ⟨_, hs, ?_, ?_, fun presented lone => step_present hq hr presented lone hs⟩
  · exact (congrArg State.cmds hsame :)
  · exact (congrArg State.uop hsame :)

end Sys2Proof.Machine
end

section
/-! SUPPORT. ENCODE_AND_WRITE (43_register_pack_write.md R92) from any offset on: `Emits` for the rest of its loop, once
for an operation that begins and for one that waits, and what each list of answers makes of it. -/

namespace Sys2Proof.Machine

open Sys2Proof.Config

/-! A run of writes answered `Ok`, and then one answered with an error (R36, R121). -/

section Failure

variable {s s1 : State} {ws : List (Byte × Byte)} {j : Nat} {w : Byte × Byte} {e : ErrT}

/-- Of the device, the failed write takes its own register only. -/
theorem OkRun.dev_answerErr (h : OkRun s s1 (ws.take j)) :
    (answerErr w.1 w.2 e s1).dev =
      storeAll s.cfg.devAddr (ws.take j ++ [(w.1, lostWriteByte s1.freeCount)]) s.dev := by
  obtain ⟨hcfg, -⟩ := h.outside
  rw [answerErr_dev, h.dev, hcfg, storeAll, storeAll, List.foldl_append]
  rfl

/-- The failed write goes to the next register of the list, whatever that holds then. -/
theorem take_append_failed_map_fst (hw : ws[j]? = some w) (v : Byte) :
    (ws.take j ++ [(w.1, v)]).map Prod.fst = (ws.take (j + 1)).map Prod.fst := by
  simp [List.take_add_one, hw]

theorem OkRun.holds_answerErr (h : OkRun s s1 (ws.take j)) (hw : ws[j]? = some w)
    (hn : ((ws.take (j + 1)).map Prod.fst).Nodup) : (answerErr w.1 w.2 e s1).holds s.cfg.devAddr (ws.take j) := by
  intro v hv
  show (answerErr w.1 w.2 e s1).dev.read _ = _
  rw [h.dev_answerErr]
  exact storeAll_holds _ _ _ (by rwa [take_append_failed_map_fst hw]) v (List.mem_append_left _ hv)

theorem OkRun.same_answerErr (h : OkRun s s1 (ws.take j)) (hw : ws[j]? = some w) :
    s.devSameExcept (answerErr w.1 w.2 e s1) s.cfg.devAddr ((ws.take (j + 1)).map Prod.fst) := by
  intro a r hr
  show (answerErr w.1 w.2 e s1).dev.read _ = s.dev.read _
  rw [h.dev_answerErr]
  exact storeAll_other _ _ _ _ _ (by rwa [take_append_failed_map_fst hw])

theorem OkRun.trace_answerErr (h : OkRun s s1 (ws.take j)) (hw : ws[j]? = some w) :
    (answerErr w.1 w.2 e s1).trace = s.trace ++ (ws.take j).map (okEvent s.cfg.devAddr) ++
      ((ws.drop j).take 1).map (errEvent s.cfg.devAddr e) := by
  obtain ⟨hcfg, -⟩ := h.outside
  rw [answerErr_trace, h.trace, hcfg, List.take_one, List.head?_drop, hw]
  rfl

end Failure

/-! The loop. -/

/-- In `s'` the loop of a block write started in `s`, with the datapath `x` and the bytes `b`, stands at offset `n`:
inside the loop (`inLoop` true) or after it. -/
structure AtOffset (x : Datapath) (b : Buffer) (s : State) (n : Nat) (inLoop : Bool) (s' : State) : Prop where
  dp : s'.dp = { x with off := BitVec.ofNat 4 n }
  buf : s'.buf = b
  seq : s'.seq = s.seq
  flags : s'.flags = s.flags
  inBlock : s'.inBlock = inLoop

/-- `p`, started in `s`, sends the bytes `b` from offset `k` on to block `blk` and ends there. -/
def SendsBlock (blk : BlockId) (k : Nat) (x : Datapath) (b : Buffer) (p : Progress) (s : State) : Prop :=
  Emits p s ((blockWrites (blockBase blk) b).drop k) (AtOffset x b s 8 false) (fun j => AtOffset x b s (k + j) true)

theorem writesFrom_drop (base : Byte) (l : List Byte) (j k : Nat) :
    (writesFrom base j l).drop k = writesFrom base (j + k) (l.drop k) := by
  apply List.ext_getElem?
  intro i
  rw [List.getElem?_drop, writesFrom_getElem?, writesFrom_getElem?, List.getElem?_drop, Nat.add_assoc]

theorem blockWrites_drop_length (base : Byte) (b : Buffer) (k : Nat) : ((blockWrites base b).drop k).length = 8 - k :=
  List.length_drop

/-- The eight registers of a block differ. -/
theorem blockWrites_nodup (base : Byte) (b : Buffer) : ((blockWrites base b).map Prod.fst).Nodup := by
  simp [blockWrites]

theorem blockWrites_slice_nodup (base : Byte) (b : Buffer) (k j : Nat) :
    ((((blockWrites base b).drop k).take j).map Prod.fst).Nodup :=
  (blockWrites_nodup base b).sublist (((List.take_sublist _ _).trans (List.drop_sublist _ _)).map _)

/-- The loop of a block write, from offset `k` on. -/
theorem sendsBlock_writeBytes {blk : BlockId} {k : Nat} {s : State} (hk : k ≤ 8) (hi : s.inBlock = true)
    (hbase : s.dp.base = blockBase blk) (hoff : s.dp.off = BitVec.ofNat 4 k) :
    SendsBlock blk k s.dp s.buf (writeBytes (s.buf.toList.drop k) s) s := by
  have hlen : (s.buf.toList.drop k).length = 8 - k := List.length_drop
  have hloop := emits_writeBytes (blockBase blk) (s.buf.toList.drop k) s k hbase hoff hi (by omega)
  have hat : ∀ inLoop j s', loopAt s inLoop j s' → AtOffset s.dp s.buf s (k + j) inLoop s' :=
    fun inLoop j s' ⟨hdp, hbuf, hseq, hflags, hin⟩ =>
      ⟨by rw [hdp, hoff, BitVec.ofNat_add], hbuf, hseq, hflags, hin⟩
  unfold SendsBlock
  rw [blockWrites_eq_writesFrom, writesFrom_drop, Nat.zero_add]
  refine hloop.mono (fun s' _ h => ?_) (fun j s' _ h => hat true j s' h)
  have hend := hat false _ s' h
  rwa [hlen, Nat.add_sub_cancel' hk] at hend

/-- ENCODE_AND_WRITE from its preparation on. -/
theorem sendsBlock_encodeAndWrite (blk : BlockId) (extra : Byte) (s : State) :
    SendsBlock blk 0 { s.dp with base := blockBase blk, extra := extra } (packBytes s.dp.p1 s.dp.p2 s.dp.p3 extra)
      (encodeAndWrite blk extra s) s := by
  have hloop := sendsBlock_writeBytes (blk := blk) (k := 0) (s := prepareBlock blk extra s) (by decide) rfl rfl rfl
  have hrun : OkRun s (prepareBlock blk extra s) [] := OkRun.nothing ⟨rfl, rfl, rfl, rfl, rfl⟩ rfl rfl rfl rfl rfl
  exact (Emits.mono hloop (fun _ _ h => ⟨h.dp, h.buf, h.seq, h.flags, h.inBlock⟩)
    (fun _ _ _ h => ⟨h.dp, h.buf, h.seq, h.flags, h.inBlock⟩)).rebase rfl hrun

/-- R92: after a write the loop stands at the next offset. -/
theorem stepOff_off_toNat {s s' : State} (hdp : s'.dp = s.dp) (hlt : s.dp.off.toNat < 8) :
    (stepOff s').dp.off.toNat = s.dp.off.toNat + 1 := by
  rw [stepOff_dp, hdp]
  show (s.dp.off + 1).toNat = _
  rw [BitVec.toNat_add]
  show (s.dp.off.toNat + 1) % 16 = _
  omega

/-- Inside the loop of a block write the look at the write of byte x[OFF] is the loop's own, and the loop goes on. -/
theorem lookAndGoOn_inBlock {s : State} {v : Byte} (hi : s.inBlock = true)
    (hv : s.buf.toList[s.dp.off.toNat]? = some v) :
    lookAndGoOn (s.dp.base + s.dp.off.setWidth 8) v s =
      (writeBytes (s.buf.toList.drop s.dp.off.toNat) s).andThen finishCommand := by
  obtain ⟨hlt, hget⟩ := List.getElem?_eq_some_iff.mp hv
  rw [List.drop_eq_getElem_cons hlt, hget, writeBytes_cons, lookAndGoOn, ← Progress.andThen_assoc]
  congr 1
  refine busWrite_andThen_congr fun s' ⟨hdp, hbuf, _, _, hin⟩ => ?_
  rw [finishOperation_inBlock (hin.trans hi), stepOff_off_toNat hdp hlt, stepOff_buf, hbuf]

/-- With BUSY = 0 no command follows the block. -/
theorem SendsBlock.andThen_finishCommand {blk : BlockId} {k : Nat} {x : Datapath} {b : Buffer} {p : Progress}
    {s : State} (h : SendsBlock blk k x b p s) (hb : s.flags.busy = false) :
    SendsBlock blk k x b (p.andThen finishCommand) s := by
  have hnothing : ∀ s', AtOffset x b s 8 false s' →
      Emits (finishCommand s') s' [] (AtOffset x b s 8 false) (fun _ _ => False) := fun s' ha => by
    rw [finishCommand_idle (by rw [ha.flags, hb])]
    exact Emits.done (OkRun.nothing ⟨rfl, rfl, rfl, rfl, rfl⟩ rfl rfl rfl rfl rfl) rfl ha
  have hseq := Emits.andThen h fun s' ha _ => hnothing s' ha
  rw [List.append_nil] at hseq
  exact hseq.mono (fun _ _ ha => ha) fun j s' hj ha => by rwa [if_pos hj] at ha

/-- R91, R92: a step of a lone ENCODE_AND_WRITE that waits at offset `k` is the rest of its loop. -/
theorem step_waitingBlock {s : State} {blk : BlockId} {k : Nat} (hk : k < 8) (hr : s.rst = [])
    (hb : s.flags.busy = false) (hi : s.inBlock = true) (hbase : s.dp.base = blockBase blk)
    (hoff : s.dp.off = BitVec.ofNat 4 k)
    (hq : s.busReq = ((blockWrites (blockBase blk) s.buf)[k]?).map (fun w => busWord w.1 w.2)) :
    ∃ p, SendsBlock blk k s.dp s.buf p s ∧ step s = .next p.state := by
  have hoffNat : s.dp.off.toNat = k := by
    rw [hoff, BitVec.toNat_ofNat]
    omega
  obtain ⟨v, hv⟩ : ∃ v, s.buf.toList[k]? = some v := ⟨_, List.getElem?_eq_getElem hk⟩
  have hreg : s.dp.base + s.dp.off.setWidth 8 = blockBase blk + BitVec.ofNat 8 k := by
    rw [hbase, ← hoffNat, BitVec.ofNat_toNat]
  have hreq : s.busReq = some (busWord (s.dp.base + s.dp.off.setWidth 8) v) := by
    rw [hq, blockWrites_eq_writesFrom, writesFrom_getElem?, hv, hreg, Nat.zero_add]
    rfl
  refine ⟨_, (sendsBlock_writeBytes hk.le hi hbase hoff).andThen_finishCommand hb, ?_⟩
  rw [step_look hr hreq, busWord_reg, busWord_val, resume_busWrite, lookAndGoOn_inBlock hi (by rw [hoffNat, hv]),
    hoffNat]

section Answers

variable {blk : BlockId} {k : Nat} {x : Datapath} {b : Buffer} {p : Progress} {s : State}

/-- R92: with every answer `Ok` the rest of the block is sent. -/
theorem SendsBlock.completes (h : SendsBlock blk k x b p s) (hk : k < 8) {rest : List BusRsp}
    (hr : s.rsps = oks (8 - k) ++ rest) :
    let ws := (blockWrites (blockBase blk) b).drop k
    p.state.trace = s.trace ++ ws.map (okEvent s.cfg.devAddr) ∧
      p.state.buf = b ∧ p.state.dp = { x with off := 8 } ∧ p.state.widx = s.widx + BitVec.ofNat 5 (8 - k) ∧
      p.state.busReq = none ∧ p.state.inBlock = false ∧ p.state.rsps = rest ∧
      p.state.seq = s.seq ∧ p.state.flags = s.flags ∧ s.sameOutside p.state ∧
      p.state.holds s.cfg.devAddr ws ∧ s.devSameExcept p.state s.cfg.devAddr (ws.map Prod.fst) := by
  have hlen := blockWrites_drop_length (blockBase blk) b k
  have hnodup := blockWrites_slice_nodup (blockBase blk) b k (8 - k)
  rw [List.take_of_length_le hlen.le] at hnodup
  obtain ⟨hall, -, -⟩ := h
  obtain ⟨s', rfl, hrun, hleft, hat⟩ := hall rest (by rw [hlen, hr])
  refine ⟨hrun.trace, hat.buf, hat.dp, ?_, hrun.answered (List.ne_nil_of_length_pos (by omega)), hat.inBlock, hleft,
    hat.seq, hat.flags, hrun.outside, hrun.holds hnodup, hrun.same⟩
  rw [← hlen]
  exact hrun.widx

/-- R92, R121: the first error ends the block at its own write. -/
theorem SendsBlock.aborts (h : SendsBlock blk k x b p s) {j : Nat} {e : ErrT} (hj : k + j < 8) {rest : List BusRsp}
    (hr : s.rsps = oks j ++ .answered (.err e) :: rest) :
    let ws := blockWrites (blockBase blk) b
    p.state.trace = s.trace ++ ((ws.drop k).take j).map (okEvent s.cfg.devAddr) ++
        ((ws.drop (k + j)).take 1).map (errEvent s.cfg.devAddr e) ∧
      p.state.buf = b ∧ p.state.dp = { x with off := BitVec.ofNat 4 (k + j) } ∧
      p.state.widx = s.widx + BitVec.ofNat 5 j ∧ p.state.busReq = none ∧ p.state.inBlock = false ∧
      p.state.rsps = rest ∧ p.state.seq = .failed ∧ p.state.flags = ⟨false, false, true, .transportError, some e⟩ ∧
      s.sameOutside p.state ∧ p.state.holds s.cfg.devAddr ((ws.drop k).take j) ∧
      s.devSameExcept p.state s.cfg.devAddr (((ws.drop k).take (j + 1)).map Prod.fst) := by
  have hlen := blockWrites_drop_length (blockBase blk) b k
  have hnodup := blockWrites_slice_nodup (blockBase blk) b k
  have hget := List.getElem?_eq_getElem (l := (blockWrites (blockBase blk) b).drop k) (i := j) (by omega)
  obtain ⟨-, herr, -⟩ := h
  obtain ⟨s1, rfl, hrun, hleft, hat⟩ := herr j _ e rest hget hr
  refine ⟨?trace, hat.buf, hat.dp, ?widx, rfl, rfl, hleft, rfl, rfl, hrun.outside,
    hrun.holds_answerErr hget (hnodup (j + 1)), hrun.same_answerErr hget⟩
  case trace =>
    rw [← List.drop_drop]
    exact hrun.trace_answerErr hget
  case widx =>
    have hwidx := hrun.widx
    rwa [List.length_take_of_le (by omega)] at hwidx

/-- R32, R92: the block waits at its first write without an answer. -/
theorem SendsBlock.waits (h : SendsBlock blk k x b p s) {j : Nat} (hj : k + j < 8) {later : List BusRsp}
    (hr : s.rsps = oks j ++ later) (hlater : later = [] ∨ later.head? = some .silent) :
    let ws := blockWrites (blockBase blk) b
    p.state.busReq = (ws[k + j]?).map (fun w => busWord w.1 w.2) ∧
      p.state.trace = s.trace ++ ((ws.drop k).take j).map (okEvent s.cfg.devAddr) ∧
      p.state.buf = b ∧ p.state.dp = { x with off := BitVec.ofNat 4 (k + j) } ∧
      p.state.widx = s.widx + BitVec.ofNat 5 j ∧ p.state.inBlock = true ∧ p.state.rsps = later.tail ∧
      p.state.seq = s.seq ∧ p.state.flags = s.flags ∧ s.sameOutside p.state ∧
      p.state.holds s.cfg.devAddr ((ws.drop k).take j) ∧
      s.devSameExcept p.state s.cfg.devAddr (((ws.drop k).take j).map Prod.fst) := by
  have hlen := blockWrites_drop_length (blockBase blk) b k
  have hget := List.getElem?_eq_getElem (l := (blockWrites (blockBase blk) b).drop k) (i := j) (by omega)
  obtain ⟨-, -, hwait⟩ := h
  obtain ⟨s1, rfl, hrun, hleft, hat⟩ := hwait j _ later hget (hlater.imp_right List.head?_eq_some_iff.mp) hr
  refine ⟨?request, hrun.trace, hat.buf, hat.dp, ?widx, hat.inBlock, hleft, hat.seq, hat.flags, hrun.outside,
    hrun.holds (blockWrites_slice_nodup _ _ _ _), hrun.same⟩
  case request =>
    rw [← List.getElem?_drop, hget]
    rfl
  case widx =>
    have hwidx := hrun.widx
    rwa [List.length_take_of_le (by omega)] at hwidx

end Answers

/-- Settles O38: with every answer `Ok` the loop sends its eight bytes from offset 0. -/
theorem encodeAndWriteCompletes : Obligations.EncodeAndWriteCompletes := fun s blk extra _ hr =>
  ⟨_, rfl, (sendsBlock_encodeAndWrite blk extra s).completes (by decide) hr⟩

/-- Settles O39: the first error ends the loop at its own offset. -/
theorem encodeAndWriteAbortsAtTheFirstFailure : Obligations.EncodeAndWriteAbortsAtTheFirstFailure := by
  intro s blk extra k e rest hk hr
  have h := (sendsBlock_encodeAndWrite blk extra s).aborts (by rwa [Nat.zero_add]) hr
  rw [Nat.zero_add] at h
  exact ⟨_, rfl, h⟩

/-- Settles O40: the loop waits at its first write without an answer. -/
theorem encodeAndWriteWaitsAtAnUnansweredWrite : Obligations.EncodeAndWriteWaitsAtAnUnansweredWrite := by
  intro s blk extra k later hk hr hlater
  have h := (sendsBlock_encodeAndWrite blk extra s).waits (by rwa [Nat.zero_add]) hr hlater
  rw [Nat.zero_add] at h
  exact ⟨_, rfl, h⟩

/-- Settles O41: the step is the rest of the loop from offset `k` on, so it ends, fails or waits as a loop does. -/
theorem waitingBlockGoesOn : Obligations.WaitingBlockGoesOn := by
  intro s blk k hk ws hrst hb hi hbase hoff hq
  obtain ⟨p, h, hstep⟩ := step_waitingBlock hk hrst hb hi hbase hoff hq
  exact ⟨fun _ hr => ⟨_, hstep, h.completes hk hr⟩, fun _ _ _ hj hr => ⟨_, hstep, h.aborts hj hr⟩,
    fun _ _ hj hr hlater => ⟨_, hstep, h.waits hj hr hlater⟩⟩

end Sys2Proof.Machine
end

section
/-! SUPPORT. No other write takes the place of a block's write (20_memory.md R39, R91, R92): an operation that starts
outside the loop of a block write leaves it, or waits in it for the loop's own write. -/

namespace Sys2Proof.Machine

open Sys2Proof.Config

theorem loopLegal_of_closed {s : State} (h : s.inBlock = false) : s.loopLegal := fun hi => by simp [h] at hi

/-- With no write outstanding no loop is in progress. -/
theorem State.loopLegal.closed {s : State} (h : s.loopLegal) (hq : s.busReq = none) : s.inBlock = false := by
  by_contra hi
  obtain ⟨hlt, hreq⟩ := h (by simpa using hi)
  rw [hq, List.getElem?_eq_getElem hlt] at hreq
  cases hreq

/-- `p` completes outside the loop of a block write; if it stops or waits, it does so at no write but the loop's. -/
def Progress.KeepsLoop (p : Progress) : Prop := p.Leaves (fun s => s.inBlock = false) State.loopLegal

theorem Progress.KeepsLoop.state {p : Progress} (h : p.KeepsLoop) : p.state.loopLegal :=
  Progress.Leaves.state h fun _ => loopLegal_of_closed

theorem Progress.KeepsLoop.andThen {p : Progress} {f : State → Progress} (h : p.KeepsLoop)
    (hf : ∀ s, s.inBlock = false → (f s).KeepsLoop) : (p.andThen f).KeepsLoop :=
  Progress.Leaves.andThen h hf

/-- Outside a loop any write will do. -/
theorem busWrite_keepsLoop {s : State} (h : s.inBlock = false) (reg val : Byte) : (busWrite reg val s).KeepsLoop :=
  busWrite_leaves (fun _ => h) (fun _ _ => loopLegal_of_closed rfl) (fun _ => loopLegal_of_closed h)

/-- The loop sends the byte at x[OFF], and waits for that write only. -/
theorem writeBytes_keepsLoop (l : List Byte) :
    ∀ s, s.buf.toList.drop s.dp.off.toNat = l → (writeBytes l s).KeepsLoop := by
  induction l with
  | nil => exact fun _ _ => rfl
  | cons v l ih =>
    intro s hl
    have hv : s.buf.toList[s.dp.off.toNat]? = some v := by rw [← List.head?_drop, hl]; rfl
    have hlt : s.dp.off.toNat < 8 := (List.getElem?_eq_some_iff.mp hv).1
    rw [writeBytes_cons]
    refine Progress.Leaves.andThen (C := sameCore s) (busWrite_leaves (fun _ => ⟨rfl, rfl, rfl, rfl, rfl⟩)
      (fun _ _ => loopLegal_of_closed rfl) (fun _ _ => ⟨hlt, ?own⟩)) fun s1 ⟨hdp, hbuf, _⟩ => ih _ ?rest
    case own =>
      show some _ = Option.map _ (s.buf.toList[s.dp.off.toNat]?)
      rw [hv]
      rfl
    case rest =>
      rw [stepOff_off_toNat hdp hlt, stepOff_buf, hbuf, ← List.tail_drop, hl]
      rfl

theorem encodeAndWrite_keepsLoop (blk : BlockId) (extra : Byte) (s : State) : (encodeAndWrite blk extra s).KeepsLoop :=
  writeBytes_keepsLoop _ _ rfl

theorem advance_closed {s : State} (h : s.inBlock = false) : (advance s).inBlock = false := (advance_inBlock s).trans h

theorem runFromPllReset_keepsLoop {s : State} (h : s.inBlock = false) : (runFromPllReset s).KeepsLoop :=
  (busWrite_keepsLoop h _ _).andThen fun _ h1 => advance_closed h1

theorem runFromMultisynth_keepsLoop {s : State} (h : s.inBlock = false) : (runFromMultisynth s).KeepsLoop :=
  (busWrite_keepsLoop h _ _).andThen fun _ h1 => runFromPllReset_keepsLoop (advance_closed h1)

theorem runFromPllProgrammed_keepsLoop (s : State) : (runFromPllProgrammed s).KeepsLoop :=
  (encodeAndWrite_keepsLoop _ _ _).andThen fun _ h1 => runFromMultisynth_keepsLoop (advance_closed h1)

theorem runFromComputed_keepsLoop (s : State) : (runFromComputed s).KeepsLoop :=
  (encodeAndWrite_keepsLoop _ _ _).andThen fun _ _ => runFromPllProgrammed_keepsLoop _

theorem runSequence_keepsLoop {s : State} (h : s.inBlock = false) : (runSequence s).KeepsLoop := by
  unfold runSequence
  split
  · exact runFromComputed_keepsLoop _
  · exact runFromComputed_keepsLoop s
  · exact runFromPllProgrammed_keepsLoop s
  · exact runFromMultisynth_keepsLoop h
  · exact runFromPllReset_keepsLoop h
  · exact h
  · exact h

theorem finishCommand_keepsLoop {s : State} (h : s.inBlock = false) : (finishCommand s).KeepsLoop := by
  unfold finishCommand
  split
  · simp only []
    split
    · exact runSequence_keepsLoop (advance_closed h)
    · exact advance_closed h
  · exact h

/-- Outside a loop no instruction starts a write in place of a block's. -/
theorem exec_loopLegal {i : Instr} {s s' : State} (h : s.inBlock = false) (he : exec i s = .next s') :
    s'.loopLegal := by
  cases i with
  | construct a ref =>
    obtain rfl : construct a ref s = s' := Host.Outcome.next.inj he
    refine loopLegal_of_closed ?_
    unfold construct
    split_ifs <;> exact h
  | setFrequency t =>
    obtain rfl : setFrequency t s = s' := Host.Outcome.next.inj he
    unfold setFrequency
    split_ifs
    · exact loopLegal_of_closed h
    · exact loopLegal_of_closed h
    · exact loopLegal_of_closed h
    · exact (runSequence_keepsLoop (s := acceptSetFrequency t s) h).state
  | encodeAndWrite blk extra =>
    obtain rfl : (encodeAndWrite blk extra s).state = s' := Host.Outcome.next.inj he
    exact (encodeAndWrite_keepsLoop blk extra s).state
  | plan | encPll | encMs | pack8 =>
    obtain rfl := Host.Outcome.next.inj he
    exact loopLegal_of_closed h
  | _ =>
    obtain rfl : (busWrite _ _ s).state = s' := Host.Outcome.next.inj he
    exact (busWrite_keepsLoop h _ _).state

theorem stepUop_loopLegal {w : UopWord} {s s' : State} (h : s.inBlock = false) (hs : stepUop w s = .next s') :
    s'.loopLegal := by
  unfold stepUop at hs
  split at hs
  · exact exec_loopLegal h hs
  · cases hs

theorem stepCommand_loopLegal {w : CmdWord} {s s' : State} (h : s.inBlock = false)
    (hs : stepCommand w s = .next s') : s'.loopLegal := by
  unfold stepCommand at hs
  split at hs
  · exact exec_loopLegal h hs
  · obtain rfl := Host.Outcome.next.inj hs
    exact loopLegal_of_closed h

/-- The look at the outstanding write: inside a loop it is the loop's own, and the loop goes on. -/
theorem State.loopLegal.lookAndGoOn {s : State} {w : BusWord} (h : s.loopLegal) (hq : s.busReq = some w) :
    (lookAndGoOn (w.extractLsb' 8 8) (w.extractLsb' 0 8) s).KeepsLoop := by
  cases hi : s.inBlock with
  | false =>
    rw [lookAndGoOn_eq_of_closed hi]
    exact (busWrite_keepsLoop hi _ _).andThen fun _ h1 => finishCommand_keepsLoop h1
  | true =>
    obtain ⟨hlt, hreq⟩ := h hi
    have hv := List.getElem?_eq_getElem (l := s.buf.toList) hlt
    rw [hv, hq] at hreq
    obtain rfl := Option.some.inj hreq
    rw [busWord_reg, busWord_val, lookAndGoOn_inBlock hi hv]
    exact (writeBytes_keepsLoop _ s rfl).andThen fun _ h1 => finishCommand_keepsLoop h1

theorem stepRunning_loopLegal {s s' : State} (h : s.loopLegal) (hs : stepRunning s = .next s') : s'.loopLegal := by
  rcases stepRunning_cases s with ⟨w, hq, hc⟩ | ⟨hq, -, hc⟩ | ⟨w, hq, -, -, hc⟩ | ⟨w, rest, hq, -, -, -, hc⟩ |
    ⟨-, -, -, -, hc⟩
  · obtain rfl := Host.Outcome.next.inj (hc.symm.trans hs)
    rw [resume_busWrite]
    exact (h.lookAndGoOn hq).state
  · obtain rfl := Host.Outcome.next.inj (hc.symm.trans hs)
    exact (runSequence_keepsLoop (h.closed hq)).state
  · exact stepUop_loopLegal (s := { s with uop := none }) (h.closed hq) (hc.symm.trans hs)
  · exact stepCommand_loopLegal (s := { s with cmds := rest }) (h.closed hq) (hc.symm.trans hs)
  · obtain rfl := Host.Outcome.next.inj (hc.symm.trans hs)
    exact h

/-- R127: an asserted reset wins over everything. -/
theorem step_reset {s : State} (hr : s.rst.head? = some true) :
    step s = .next (resetEvent { s with rst := s.rst.tail }) := by
  obtain ⟨rest, hrst⟩ := List.head?_eq_some_iff.mp hr
  simp [step, hrst]

/-- Settles O52: reset leaves no loop in progress, and a running step looks at the loop's own write or starts outside
every loop. -/
theorem blockLoopWaitsOnItsOwnWrite : Obligations.BlockLoopWaitsOnItsOwnWrite := by
  intro s s' h hs
  by_cases hr : s.rst.head? = some true
  · obtain rfl := Host.Outcome.next.inj ((step_reset hr).symm.trans hs)
    exact loopLegal_of_closed rfl
  · rw [step_running hr] at hs
    exact stepRunning_loopLegal (s := { s with rst := s.rst.tail }) h hs

end Sys2Proof.Machine
end

section
/-! SUPPORT. A SET_FREQUENCY from its acceptance on (44_sequencer.md R101 to R103): the rest of the command from the
state in which the plan is made and no write is issued, and what the answers to its 18 writes make of it. -/

namespace Sys2Proof.Machine

open Sys2Proof.Config

/-- `s` after a SET_FREQUENCY `t` is accepted and PLAN has run: none of its writes is issued yet (R101, R102). -/
def State.plannedTo (s : State) (t : Word32) : State := advance (plan (acceptSetFrequency t s))

theorem plannedTo_micro (s : State) (t : Word32) : (s.plannedTo t).micro = microFor s t := rfl

theorem microFor_length (s : State) (t : Word32) : (microFor s t).length = 18 := rfl

/-- No register is written twice in one command (20_memory.md R39). -/
theorem microFor_take_nodup (s : State) (t : Word32) (k : Nat) : (((microFor s t).take k).map Prod.fst).Nodup :=
  micro_slice_nodup (s.plannedTo t) 0 k

/-- R101: an accepted SET_FREQUENCY is its whole microprogram, as far as the answers go. -/
theorem exec_setFrequency_of_accepted {s : State} {t : Word32} (hb : s.flags.busy = false)
    (hc : s.cfg.constructed = true) (ht : t ≠ 0) :
    ∃ p, exec (.setFrequency t) s = .next p.state ∧
      Emits p (s.plannedTo t) (microFor s t) (CommandDone (s.plannedTo t))
        (fun k => SameCommand (s.plannedTo t) (seqWhileIssued k)) := by
  refine ⟨runFromComputed (s.plannedTo t), congrArg Host.Outcome.next (setFrequency_of_accepted hb hc ht), ?_⟩
  have h : FinishesCommand 0 (runFromComputed (s.plannedTo t)) (s.plannedTo t) := finishesCommand_fromComputed rfl rfl
  simpa only [FinishesCommand, List.drop_zero, plannedTo_micro, Nat.zero_add] using h

/-- WIDX counts the writes of a command from its acceptance on (R16). -/
theorem OkRun.widx_of_planned {s s' : State} {t : Word32} {ws : List (Byte × Byte)} (h : OkRun (s.plannedTo t) s' ws)
    (hlt : ws.length < 32) : s'.widx.toNat = ws.length := by
  have hzero : (s.plannedTo t).widx.toNat = 0 := rfl
  rw [h.widx_toNat (by omega), hzero, Nat.zero_add]

/-- Settles O14: with every answer `Ok` the accepted command ends well after its 18 writes. -/
theorem setFrequencyCompletes : Obligations.SetFrequencyCompletes := by
  intro s t rest hb hc ht hrsps
  obtain ⟨p, hexec, hall, -, -⟩ := exec_setFrequency_of_accepted hb hc ht
  obtain ⟨s', rfl, hrun, hleft, hdone⟩ := hall rest hrsps
  refine ⟨s', hexec, hdone.seq, ?widx, hdone.flags, hrun.trace, hrun.answered (List.cons_ne_nil _ _), hdone.inBlock,
    hleft, congrArg Datapath.tf hdone.plan, hrun.outside, hrun.holds (micro_nodup (s.plannedTo t)), hrun.same⟩
  case widx =>
    have hlen := microFor_length s t
    exact BitVec.eq_of_toNat_eq ((hrun.widx_of_planned (by omega)).trans hlen)

/-- Settles O16: the accepted command waits at its first write without an answer. -/
theorem setFrequencyWaitsAtAnUnansweredWrite : Obligations.SetFrequencyWaitsAtAnUnansweredWrite := by
  intro s t k later hb hc ht hk hrsps hlater
  obtain ⟨p, hexec, -, -, hwait⟩ := exec_setFrequency_of_accepted hb hc ht
  obtain ⟨w, hw⟩ : ∃ w, (microFor s t)[k]? = some w := ⟨_, List.getElem?_eq_getElem hk⟩
  have hun : unanswered later := hlater.imp_right List.head?_eq_some_iff.mp
  obtain ⟨s1, rfl, hrun, hleft, hcmd⟩ := hwait k w later hw hun hrsps
  refine ⟨_, hexec, hcmd.seq, ?widx, hcmd.flags, by rw [hw]; rfl, hleft, hrun.trace, hrun.outside,
    hrun.holds (microFor_take_nodup s t k), hrun.same⟩
  case widx =>
    have hlen : ((microFor s t).take k).length = k := List.length_take_of_le hk.le
    exact (hrun.widx_of_planned (by omega)).trans hlen

end Sys2Proof.Machine
end

section
/-! SUPPORT. What a SET_FREQUENCY leaves to the next one (R105, R110): the 18 writes depend on the configuration, the
parameters and the target alone, and no SET_FREQUENCY writes the first two. -/

namespace Sys2Proof.Machine

open Sys2Proof.Config

/-- A bus write keeps the parameters, so every operation made of bus writes does. -/
theorem closed_params (c : Params) : Closed (fun s => s.params = c) where
  bus _ _ _ h := busWrite_leaves (fun _ => h) (fun _ _ => h) (fun _ => h)
  ext _ _ h _ _ _ hparams := hparams.trans h

theorem setFrequency_params (t : Word32) (s : State) : (setFrequency t s).params = s.params := by
  unfold setFrequency
  split_ifs
  · rfl
  · rfl
  · rfl
  · exact ((closed_params s.params).keepsRunSequence (s := acceptSetFrequency t s) rfl).state fun _ h => h

/-- R14, R101: PLAN writes every datapath register that the microprogram depends on. -/
theorem microFor_congr {s s' : State} (hcfg : s'.cfg = s.cfg) (hparams : s'.params = s.params) (t : Word32) :
    microFor s' t = microFor s t := by
  unfold microFor State.micro
  rw [hcfg, hparams]
  rfl

/-- Settles O21: however it ends, a SET_FREQUENCY keeps the configuration and the parameters. -/
theorem successiveCommandsAreIndependent : Obligations.SuccessiveCommandsAreIndependent := by
  intro s s' t t' h
  obtain rfl : setFrequency t s = s' := Host.Outcome.next.inj h
  exact microFor_congr (setFrequency_cfg t s) (setFrequency_params t s) t'

end Sys2Proof.Machine
end

section
/-! SUPPORT. CONSTRUCT case by case (44_sequencer.md R100), and a host command while BUSY = 1 (R104). -/

namespace Sys2Proof.Machine

open Sys2Proof.Config

theorem construct_of_busy {s : State} (hb : s.flags.busy = true) (a : Bool) (ref : Word32) : construct a ref s = s :=
  if_pos hb

theorem construct_of_constructed {s : State} (hb : s.flags.busy = false) (hc : s.cfg.constructed = true) (a : Bool)
    (ref : Word32) : construct a ref s = refuseCommand .illegal s := by
  rw [construct, if_neg (by simp [hb]), if_pos hc]

theorem construct_of_zero {s : State} (hb : s.flags.busy = false) (hc : s.cfg.constructed = false) (a : Bool) :
    construct a 0 s = refuseCommand .domain s := by
  rw [construct, if_neg (by simp [hb]), if_neg (by simp [hc]), if_pos rfl]

theorem construct_of_accepted {s : State} (hb : s.flags.busy = false) (hc : s.cfg.constructed = false) (a : Bool)
    {ref : Word32} (hr : ref ≠ 0) : construct a ref s = acceptConstruct a ref s := by
  rw [construct, if_neg (by simp [hb]), if_neg (by simp [hc]), if_neg hr]

theorem setFrequency_of_busy {s : State} (hb : s.flags.busy = true) (t : Word32) : setFrequency t s = s :=
  if_pos hb

/-- R123: a refusal with BUSY = 0 gives every flag its value. -/
theorem refuseCommand_of_idle {s : State} (hb : s.flags.busy = false) (code : Status) :
    refuseCommand code s = { s with flags := ⟨false, false, true, code, none⟩ } := by
  rw [refuseCommand, Flags.refused, hb]

/-- R31: the two addresses by the level of the address-select pin. -/
theorem resolveDevAddr_eq_ite (a : Bool) : resolveDevAddr a = if a then 0x61 else 0x60 := by
  cases a <;> rfl

/-- Settles O12: turned away while BUSY = 1, then the two refusals in their order, then acceptance. -/
theorem constructOutcome : Obligations.ConstructOutcome := by
  intro s a ref
  refine ⟨fun hb => ?busy, fun hb hc => ?constructed, fun hb hc hr => ?zero, fun hb hc hr => ?accepted⟩ <;>
    refine congrArg Host.Outcome.next ?_
  case busy => exact construct_of_busy hb a ref
  case constructed => rw [construct_of_constructed hb hc, refuseCommand_of_idle hb]
  case zero => rw [hr, construct_of_zero hb hc, refuseCommand_of_idle hb]
  case accepted => rw [construct_of_accepted hb hc a hr, acceptConstruct, resolveDevAddr_eq_ite, Flags.succeeded]

/-- With BUSY = 1 and no write outstanding the command in progress goes on (log entry 20). -/
theorem step_inProgress {s : State} (hq : s.busReq = none) (hb : s.flags.busy = true)
    (hr : s.rst.head? ≠ some true) : step s = .next (runSequence { s with rst := s.rst.tail }).state := by
  rw [step_running hr]
  simp only [stepRunning, hq, hb, if_true]
  rfl

/-- R104: while BUSY = 1 a step depends neither on the commands presented nor on the lone operation line. -/
theorem step_present_of_busy {s s' : State} (hb : s.flags.busy = true) (hr : s.rst.head? ≠ some true)
    (presented : List CmdWord) (lone : Option UopWord) (hs : step s = .next s') :
    step (s.present presented lone) = .next (s'.present presented lone) := by
  cases hq : s.busReq with
  | some w => exact step_present hq hr presented lone hs
  | none =>
    obtain rfl := Host.Outcome.next.inj ((step_inProgress hq hb hr).symm.trans hs)
    rw [step_inProgress (s := s.present presented lone) hq hb hr,
      ← Progress.state_map (State.present presented lone), ← (unread_present presented lone).runSequence]
    rfl

/-- With BUSY = 1 a step without reset always has a next state. -/
theorem exists_step_of_busy {s : State} (hb : s.flags.busy = true) (hr : s.rst.head? ≠ some true) :
    ∃ s', step s = .next s' := by
  cases hq : s.busReq with
  | some w => exact ⟨_, step_outstanding hq hr⟩
  | none => exact ⟨_, step_inProgress hq hb hr⟩

/-- Settles O8: with what is presented replaced by itself, `step_present_of_busy` says that it stays; the two commands
check BUSY first. -/
theorem commandsWaitWhileBusy : Obligations.CommandsWaitWhileBusy := by
  refine ⟨fun s hb hr => ?step, fun s a ref hb => congrArg _ (construct_of_busy hb a ref),
    fun s t hb => congrArg _ (setFrequency_of_busy hb t)⟩
  case step =>
    obtain ⟨s', hs⟩ := exists_step_of_busy hb hr
    have hsame := Host.Outcome.next.inj (hs.symm.trans (step_present_of_busy hb hr s.cmds s.uop hs))
    have huop : s'.uop = s.uop := (congrArg State.uop hsame :)
    refine ⟨s', hs, (congrArg State.cmds hsame :), fun presented => ?_⟩
    calc step { s with cmds := presented } = .next (s'.present presented s.uop) :=
          step_present_of_busy hb hr presented s.uop hs
      _ = .next { s' with cmds := presented } := by rw [← huop]; rfl

end Sys2Proof.Machine
end

section
/-! SUPPORT. The port a step fetches from (44_sequencer.md R104; log entries 16, 17, 34), one equation for each, and
what each port makes of a word that decodes. -/

namespace Sys2Proof.Machine

theorem step_undriven {s : State} (hr : s.rst = []) : step s = stepRunning s := by
  simp only [step, hr]

theorem step_deasserted {s : State} {rest : List Bool} (hr : s.rst = false :: rest) :
    step s = stepRunning { s with rst := rest } := by
  simp only [step, hr]

theorem stepRunning_outstanding {s : State} {w : BusWord} (hq : s.busReq = some w) :
    stepRunning s = stepOutstanding w s := by
  simp only [stepRunning, hq]

theorem stepRunning_lone {s : State} {w : UopWord} (hq : s.busReq = none) (hb : s.flags.busy = false)
    (hu : s.uop = some w) : stepRunning s = stepUop w { s with uop := none } := by
  simp only [stepRunning, hq, hb, hu, Bool.false_eq_true, if_false]

theorem stepRunning_presented {s : State} {w : CmdWord} {rest : List CmdWord} (hq : s.busReq = none)
    (hb : s.flags.busy = false) (hu : s.uop = none) (hc : s.cmds = w :: rest) :
    stepRunning s = stepCommand w { s with cmds := rest } := by
  simp only [stepRunning, hq, hb, hu, hc, Bool.false_eq_true, if_false]

theorem stepOutstanding_of_decode {w : BusWord} {i : Instr} (h : decodeBus w = .ok i) (s : State) :
    stepOutstanding w s = thenResume (exec i s) := by
  simp only [stepOutstanding, h]

theorem stepUop_of_decode {w : UopWord} {i : Instr} (h : decodeUop w = .ok i) (s : State) :
    stepUop w s = exec i s := by
  simp only [stepUop, h]

theorem stepCommand_of_decode {w : CmdWord} {i : Instr} (h : decodeHost w = .ok i) (s : State) :
    stepCommand w s = exec i s := by
  simp only [stepCommand, h]

/-- Settles O6: each clause is the equation of its port and that of a word that decodes there. -/
theorem stepRunsTheDecodedInstruction : Obligations.StepRunsTheDecodedInstruction := by
  refine ⟨fun s w rest i hready hc hi => ?presented, fun s w i hr hq hi => ?outstanding,
    fun s w i hr hq hb hu hi => ?lone, fun _ _ => step_deasserted, fun _ => step_undriven⟩
  case presented =>
    obtain ⟨hr, hu, hq, hb⟩ := hready
    rw [step_undriven hr, stepRunning_presented hq hb hu hc, stepCommand_of_decode hi]
  case outstanding => rw [step_undriven hr, stepRunning_outstanding hq, stepOutstanding_of_decode hi]
  case lone => rw [step_undriven hr, stepRunning_lone hq hb hu, stepUop_of_decode hi]

end Sys2Proof.Machine
end

section
/-! SUPPORT. The transport's error value is stored and forwarded (60_exceptions.md R121, D24): renaming every error value
commutes with the bus write, so with the rest of an operation and of a command, with every instruction and with reset. -/

namespace Sys2Proof.Machine

open Sys2Proof.Config

/-! The two ways a running step fetches from no port: the command in progress (log entry 20), and nothing to do. -/

theorem stepRunning_inProgress {s : State} (hq : s.busReq = none) (hb : s.flags.busy = true) :
    stepRunning s = .next (runSequence s).state := by
  simp only [stepRunning, hq, hb, if_true, Progress.outcome_eq]

theorem stepRunning_nothing {s : State} (hq : s.busReq = none) (hb : s.flags.busy = false) (hu : s.uop = none)
    (hc : s.cmds = []) : stepRunning s = .next s := by
  simp only [stepRunning, hq, hb, hu, hc, Bool.false_eq_true, if_false]

section Renaming

variable (f : ErrT → ErrT)

theorem answerOk_mapErr (reg val : Byte) (s : State) :
    answerOk reg val (s.mapErr f) = (answerOk reg val s).mapErr f := by
  simp [answerOk, State.mapErr, Answer.mapErr]

/-- R121: the error value goes, as it is, to the trace and to ERR_INFO. -/
theorem answerErr_mapErr (reg val : Byte) (e : ErrT) (s : State) :
    answerErr reg val (f e) (s.mapErr f) = (answerErr reg val e s).mapErr f := by
  simp [answerErr, raiseTransportError, loseWrite, Flags.transportFailed, State.mapErr, Answer.mapErr]

/-- What the response port shows, with the error values renamed. -/
theorem mapErr_rsps {s : State} {rsps : List BusRsp} (h : s.rsps = rsps) :
    (s.mapErr f).rsps = rsps.map (BusRsp.mapErr f) :=
  congrArg (List.map (BusRsp.mapErr f)) h

theorem busWrite_mapErr (reg val : Byte) (s : State) :
    busWrite reg val (s.mapErr f) = (busWrite reg val s).map (State.mapErr f) := by
  rcases busWrite_cases reg val s with ⟨rest, hr, hc⟩ | ⟨e, rest, hr, hc⟩ | ⟨rest, hr | ⟨hr, rfl⟩, hc⟩ <;>
    have hr' := mapErr_rsps f hr <;> rw [hc]
  · rw [busWrite_ok reg val hr']
    exact congrArg Progress.completed (answerOk_mapErr f reg val { s with rsps := rest })
  · rw [busWrite_err reg val hr']
    exact congrArg Progress.raised (answerErr_mapErr f reg val e { s with rsps := rest })
  · rw [busWrite_silent reg val hr']
    rfl
  · rw [busWrite_unanswered reg val hr', ← hr]
    rfl

/-- The rest of an operation and of a command reads no error value. -/
theorem unread_mapErr : Unread (State.mapErr f) where
  buf _ := rfl
  dp _ := rfl
  seq _ := rfl
  busy _ := rfl
  busReq _ := rfl
  inBlock _ := rfl
  bus := busWrite_mapErr f
  stepOff _ := rfl
  closeBlock _ := rfl
  prepareBlock _ _ _ := rfl
  plan _ := rfl
  encPll _ := rfl
  encMs _ := rfl
  advance s := by
    unfold advance
    cases hq : s.seq <;> simp [State.mapErr, hq, Flags.succeeded]

theorem construct_mapErr (a : Bool) (ref : Word32) (s : State) :
    construct a ref (s.mapErr f) = (construct a ref s).mapErr f := by
  simp only [construct, apply_ite (State.mapErr f)]
  rfl

theorem setFrequency_mapErr (t : Word32) (s : State) :
    setFrequency t (s.mapErr f) = (setFrequency t s).mapErr f := by
  have haccept : acceptSetFrequency t (s.mapErr f) = (acceptSetFrequency t s).mapErr f := rfl
  simp only [setFrequency, apply_ite (State.mapErr f)]
  rw [haccept, (unread_mapErr f).runSequence, Progress.state_map]
  rfl

theorem Progress.outcome_map_mapErr (p : Progress) : (p.map (State.mapErr f)).outcome = mapErrOutcome f p.outcome :=
  congrArg Host.Outcome.next (p.state_map _)

/-- No instruction looks at an error value. -/
theorem exec_mapErr (i : Instr) (s : State) : exec i (s.mapErr f) = mapErrOutcome f (exec i s) := by
  cases i with
  | construct a ref => exact congrArg Host.Outcome.next (construct_mapErr f a ref s)
  | setFrequency t => exact congrArg Host.Outcome.next (setFrequency_mapErr f t s)
  | plan | encPll | encMs | pack8 => rfl
  | encodeAndWrite blk extra =>
    show (encodeAndWrite blk extra (s.mapErr f)).outcome = _
    rw [(unread_mapErr f).encodeAndWrite]
    exact Progress.outcome_map_mapErr f _
  | _ =>
    show (busWrite _ _ (s.mapErr f)).outcome = _
    rw [busWrite_mapErr]
    exact Progress.outcome_map_mapErr f _

theorem stepUop_mapErr (w : UopWord) (s : State) : stepUop w (s.mapErr f) = mapErrOutcome f (stepUop w s) := by
  unfold stepUop
  split
  · exact exec_mapErr f _ s
  · rfl

theorem stepCommand_mapErr (w : CmdWord) (s : State) :
    stepCommand w (s.mapErr f) = mapErrOutcome f (stepCommand w s) := by
  unfold stepCommand
  split
  · exact exec_mapErr f _ s
  · rfl

theorem stepOutstanding_mapErr (w : BusWord) (s : State) :
    stepOutstanding w (s.mapErr f) = mapErrOutcome f (stepOutstanding w s) := by
  rw [stepOutstanding_eq, stepOutstanding_eq, busWrite_mapErr, Progress.state_map, (unread_mapErr f).resume]
  rfl

theorem stepRunning_mapErr (s : State) : stepRunning (s.mapErr f) = mapErrOutcome f (stepRunning s) := by
  rcases stepRunning_cases s with ⟨w, hq, -⟩ | ⟨hq, hb, hc⟩ | ⟨w, hq, hb, hu, hc⟩ | ⟨w, rest, hq, hb, hu, hcmds, hc⟩ |
    ⟨hq, hb, hu, hcmds, hc⟩
  · rw [stepRunning_outstanding hq, stepRunning_outstanding (s := s.mapErr f) hq, stepOutstanding_mapErr]
  · rw [hc, stepRunning_inProgress (s := s.mapErr f) hq hb, (unread_mapErr f).runSequence, Progress.state_map]
    rfl
  · rw [hc, stepRunning_lone (s := s.mapErr f) hq hb hu]
    exact stepUop_mapErr f w { s with uop := none }
  · rw [hc, stepRunning_presented (s := s.mapErr f) hq hb hu hcmds]
    exact stepCommand_mapErr f w { s with cmds := rest }
  · rw [hc, stepRunning_nothing (s := s.mapErr f) hq hb hu hcmds]
    rfl

/-- A reset looks at no error value either: it forgets ERR_INFO and keeps the trace (R140). -/
theorem resetEvent_mapErr (s : State) : resetEvent (s.mapErr f) = (resetEvent s).mapErr f := by
  cases hq : s.busReq <;> simp [resetEvent, abandonWrite, State.mapErr, hq, State.reset, Flags.reset, loseWrite]

end Renaming

/-- Settles O57: a step is a reset or what one of the ports makes of it, and each commutes with the renaming. -/
theorem errorValuesAreNeverInspected : Obligations.ErrorValuesAreNeverInspected := by
  intro f s
  by_cases hr : s.rst.head? = some true
  · rw [step_reset hr, step_reset (s := s.mapErr f) hr]
    exact congrArg Host.Outcome.next (resetEvent_mapErr f { s with rst := s.rst.tail })
  · rw [step_running hr, step_running (s := s.mapErr f) hr]
    exact stepRunning_mapErr f { s with rst := s.rst.tail }

end Sys2Proof.Machine
end

section
/-! SUPPORT. Reset (60_exceptions.md R127; 70_reset_and_hazards.md R140, R141): of the device it can change the register
of an outstanding write only. -/

namespace Sys2Proof.Machine

/-- R141: a reset may lose the write that is outstanding, and no other device register. -/
theorem resetEvent_devReg {s : State} {a : BusAddr} {r : Byte}
    (h : ∀ w, s.busReq = some w → ¬ (a = s.cfg.devAddr ∧ r = w.extractLsb' 8 8)) :
    (resetEvent s).devReg a r = s.devReg a r := by
  unfold State.devReg
  cases hq : s.busReq with
  | none => rw [resetEvent_dev_free hq]
  | some w =>
    rw [resetEvent_dev_busy hq]
    exact Memory.read_write_other _ _ _ _ fun hkey => h w hq (deviceKey_injective hkey)

/-- Settles O7: the step is the reset event, whatever else is presented or outstanding. -/
theorem resetWinsOverEverything : Obligations.ResetWinsOverEverything := by
  intro s rest hr
  exact ⟨_, step_reset (by rw [hr]; rfl), rfl, rfl, rfl, rfl, rfl, resetEvent_trace _,
    fun _ _ h => resetEvent_devReg (s := { s with rst := s.rst.tail }) h⟩

end Sys2Proof.Machine
end

section
/-! SUPPORT. The refusals of a presented command word (60_exceptions.md R122 to R125, R127): SET_FREQUENCY case by case,
beside CONSTRUCT's cases above, and the word that is no command. -/

namespace Sys2Proof.Machine

open Sys2Proof.Config

theorem setFrequency_of_unconstructed {s : State} (hb : s.flags.busy = false) (hc : s.cfg.constructed = false)
    (t : Word32) : setFrequency t s = refuseCommand .notReady s := by
  rw [setFrequency, if_neg (by simp [hb]), if_pos hc]

theorem setFrequency_of_zero {s : State} (hb : s.flags.busy = false) (hc : s.cfg.constructed = true) :
    setFrequency 0 s = refuseCommand .domain s := by
  rw [setFrequency, if_neg (by simp [hb]), if_neg (by simp [hc]), if_pos rfl]

/-- R59, R125: an inadmissible word is refused ILLEGAL. -/
theorem stepCommand_of_inadmissible {w : CmdWord} {err : DecodeError} (h : decodeHost w = .error err) (s : State) :
    stepCommand w s = .next (refuseCommand .illegal s) := by
  simp only [stepCommand, h]

/-- A step of a ready block considers the command presented first (R104). -/
theorem step_presented {s : State} {w : CmdWord} {rest : List CmdWord} (h : s.ready) (hc : s.cmds = w :: rest) :
    step s = stepCommand w { s with cmds := rest } := by
  obtain ⟨hr, hu, hq, hb⟩ := h
  rw [step_undriven hr, stepRunning_presented hq hb hu hc]

/-- Settles O13: the fields of the word say which command it is, if any, and each command checks in R127's order. -/
theorem refusalsInOrder : Obligations.RefusalsInOrder := by
  intro s w rest hready hcmds
  have hstep := step_presented hready hcmds
  obtain ⟨-, -, -, hb⟩ := hready
  obtain ⟨hconstruct, hsetFrequency, hreserved, hillegal⟩ := hostWordFieldsByArithmetic w
  have hrefused {code : Status} (h : step s = .next (refuseCommand code { s with cmds := rest })) :
      step s = .next { s with cmds := rest, flags := ⟨false, false, true, code, none⟩ } :=
    h.trans (congrArg _ (refuseCommand_of_idle (s := { s with cmds := rest }) hb code))
  have hdecoded {i : Instr} (h : decodeHost w = .ok i) : step s = exec i { s with cmds := rest } :=
    hstep.trans (stepCommand_of_decode h _)
  refine ⟨fun hop => ?illegalOp, fun hop has => ?reservedAddrSel, fun hop has hc => ?notReady,
    fun hop has hc hzero => ?zeroTarget, fun hop hc => ?secondConstruct, fun hop hc hzero => ?zeroReference⟩ <;>
    refine hrefused ?_
  case illegalOp => exact hstep.trans (stepCommand_of_inadmissible (hillegal hop) _)
  case reservedAddrSel => exact hstep.trans (stepCommand_of_inadmissible (hreserved ⟨hop, has⟩) _)
  case notReady =>
    rw [hdecoded (hsetFrequency ⟨hop, has⟩)]
    exact congrArg _ (setFrequency_of_unconstructed (s := { s with cmds := rest }) hb hc _)
  case zeroTarget =>
    rw [hdecoded (hsetFrequency ⟨hop, has⟩), hzero]
    exact congrArg _ (setFrequency_of_zero (s := { s with cmds := rest }) hb hc)
  case secondConstruct =>
    rw [hdecoded (hconstruct hop)]
    exact congrArg _ (construct_of_constructed (s := { s with cmds := rest }) hb hc _ _)
  case zeroReference =>
    rw [hdecoded (hconstruct hop), hzero]
    exact congrArg _ (construct_of_zero (s := { s with cmds := rest }) hb hc _)

end Sys2Proof.Machine
end

section
/-! SUPPORT. The abort of a SET_FREQUENCY at its first failing write (20_memory.md R39; 60_exceptions.md R121), for a
command accepted now and for one that waits. -/

namespace Sys2Proof.Machine

open Sys2Proof.Config

/-- Settles O15: of the accepted command's writes the first that fails is the last, and its failure is TransportError's
entry. -/
theorem setFrequencyAbortsAtTheFirstFailure : Obligations.SetFrequencyAbortsAtTheFirstFailure := by
  intro s t k e rest hb hc ht hk hrsps
  obtain ⟨p, hexec, -, hfail, -⟩ := exec_setFrequency_of_accepted hb hc ht
  obtain ⟨w, hw⟩ : ∃ w, (microFor s t)[k]? = some w := ⟨_, List.getElem?_eq_getElem hk⟩
  obtain ⟨s1, rfl, hrun, hleft, -⟩ := hfail k w e rest hw hrsps
  refine ⟨_, hexec, rfl, ?widx, rfl, hrun.trace_answerErr hw, rfl, rfl, hleft, hrun.outside,
    hrun.holds_answerErr hw (microFor_take_nodup s t (k + 1)), hrun.same_answerErr hw⟩
  case widx =>
    have hlen : ((microFor s t).take k).length = k := List.length_take_of_le hk.le
    exact (hrun.widx_of_planned (by omega)).trans hlen

/-- Settles O18: the same of the writes the waiting command has still to issue. -/
theorem waitingCommandAbortsAtTheFirstFailure : Obligations.WaitingCommandAbortsAtTheFirstFailure := by
  intro s j e rest h hb hr hj hrsps
  obtain ⟨p, ⟨-, hfail, -⟩, hstep⟩ := h.step_waiting hb hr
  obtain ⟨w, hw⟩ : ∃ w, (s.micro.drop s.widx.toNat)[j]? = some w :=
    ⟨s.micro[s.widx.toNat + j], by rw [List.getElem?_drop]; exact List.getElem?_eq_getElem hj⟩
  obtain ⟨s1, rfl, hrun, hleft, -⟩ := hfail j w e rest hw hrsps
  refine ⟨_, hstep, rfl, ?widx, rfl, ?trace, rfl, hleft, hrun.outside,
    hrun.holds_answerErr hw (micro_slice_nodup s _ _), hrun.same_answerErr hw⟩
  case widx =>
    show s1.widx.toNat = _
    rw [hrun.widx_toNat] <;> simp <;> omega
  case trace =>
    rw [← List.drop_drop]
    exact hrun.trace_answerErr hw

end Sys2Proof.Machine
end

section
/-! SUPPORT. Nothing stops the block (44_sequencer.md R105; 60_exceptions.md R120, R128): of the ports, only a word on the
lone operation line can be refused (log entry 30). -/

namespace Sys2Proof.Machine

theorem exists_stepCommand (w : CmdWord) (s : State) : ∃ s', stepCommand w s = .next s' := by
  rcases stepCommand_cases w s with hc | ⟨_, _, hc⟩ | ⟨_, hc⟩ <;> exact ⟨_, hc⟩

theorem exists_stepRunning {s : State} (hu : s.uop = none) : ∃ s', stepRunning s = .next s' := by
  rcases stepRunning_cases s with ⟨_, _, hc⟩ | ⟨_, _, hc⟩ | ⟨w, _, _, hw, _⟩ | ⟨w, rest, _, _, _, _, hc⟩ |
    ⟨_, _, _, _, hc⟩
  · exact ⟨_, hc⟩
  · exact ⟨_, hc⟩
  · simp [hu] at hw
  · rw [hc]
    exact exists_stepCommand w _
  · exact ⟨_, hc⟩

/-- Settles O58: an asserted reset has a next state, and so has a running step that fetches from another port than the
lone operation line. -/
theorem hostDrivenMachineNeverStops : Obligations.HostDrivenMachineNeverStops := by
  intro s hu
  by_cases hr : s.rst.head? = some true
  · exact ⟨_, step_reset hr⟩
  · rw [step_running hr]
    exact exists_stepRunning (s := { s with rst := s.rst.tail }) hu

end Sys2Proof.Machine
end
